-- ==== Sys2Proof/Word.lean ====
section
/-! DEFINITION. The two word types of the block (spec/00_scope.md R6, R7): an 8-bit byte and a 16-bit word. -/

namespace Sys2Proof

/-- An 8-bit value (R6 "data width"). -/
abbrev Byte := BitVec 8

/-- A 16-bit value: an address, a port address or a register pair (R6 "address width"). -/
abbrev Word := BitVec 16

end Sys2Proof
end

