-- ==== Sys2Proof/Syntax.lean ====
section
/-! DEFINITION. The instruction set as syntax: one constructor of `Instr` per row of spec/opcode_table.json
(203 rows), with the operand types of spec/30_encoding.md R102 to R107. The displacement `d` and the relative
offset `e` are the raw operand bytes (R107). -/

namespace Sys2Proof

/-- The 8-bit registers a 3-bit register code names (R104): codes 000 to 101 and 111. Code 110 is the
memory operand and no register. -/
inductive Reg8 where
  | b | c | d | e | h | l | a
deriving DecidableEq, Repr

/-- The 8-bit registers a register code names in a half-register form (R104): 100 and 101 name the
halves of the index register. -/
inductive HReg where
  | b | c | d | e | xh | xl | a
deriving DecidableEq, Repr

/-- The half-register select (R102 `x`; R160, R221, R230, R231). -/
inductive Half where
  | hi | lo
deriving DecidableEq, Repr

/-- The index register a prefix selects (R103): IX under DD, IY under FD. -/
inductive Index where
  | ix | iy
deriving DecidableEq, Repr

/-- The register pairs dd/ss (R105). -/
inductive Pair where
  | bc | de | hl | sp
deriving DecidableEq, Repr

/-- The register pairs qq of PUSH and POP (R105). -/
inductive StackPair where
  | bc | de | hl | af
deriving DecidableEq, Repr

/-- The register pairs pp of ADD XY,pp (R105): code 10 names the index register itself. -/
inductive IndexPair where
  | bc | de | xy | sp
deriving DecidableEq, Repr

/-- The conditions of JP cc, CALL cc and RET cc (R106). -/
inductive Cond where
  | nz | z | nc | c | po | pe | p | m
deriving DecidableEq, Repr

/-- The conditions of JR cc, which carries a 2-bit code (R106, R334). -/
inductive RelCond where
  | nz | z | nc | c
deriving DecidableEq, Repr

/-- The template formats (R103). -/
inductive Format where
  | b1 | b2n | b2e | b3nn | cb2 | ed2 | ed4nn | x2 | x3d | x3n | x4dn | x4nn | x4cb
deriving DecidableEq, Repr

/-- An instruction: one constructor per row of spec/opcode_table.json. -/
inductive Instr where
  -- 8-bit loads (spec/40_load8.md)
  /-- `LD r,r'`, R141, format B1: 01rrrsss -/
  | ldRR (r : Reg8) (r' : Reg8)
  /-- `LD r,n`, R142, format B2n: 00rrr110 nnnnnnnn -/
  | ldRN (r : Reg8) (n : Byte)
  /-- `LD r,(HL)`, R143, format B1: 01rrr110 -/
  | ldRHl (r : Reg8)
  /-- `LD r,(XY+d)`, R144, format X3d: 11i11101 01rrr110 dddddddd -/
  | ldRXyd (r : Reg8) (xy : Index) (d : Byte)
  /-- `LD (HL),r`, R145, format B1: 01110rrr -/
  | ldHlR (r : Reg8)
  /-- `LD (XY+d),r`, R146, format X3d: 11i11101 01110rrr dddddddd -/
  | ldXydR (xy : Index) (d : Byte) (r : Reg8)
  /-- `LD (HL),n`, R147, format B2n: 00110110 nnnnnnnn -/
  | ldHlN (n : Byte)
  /-- `LD (XY+d),n`, R148, format X4dn: 11i11101 00110110 dddddddd nnnnnnnn -/
  | ldXydN (xy : Index) (d : Byte) (n : Byte)
  /-- `LD A,(BC)`, R149, format B1: 00001010 -/
  | ldABc
  /-- `LD A,(DE)`, R150, format B1: 00011010 -/
  | ldADe
  /-- `LD A,(nn)`, R151, format B3nn: 00111010 llllllll hhhhhhhh -/
  | ldAMem (nn : Word)
  /-- `LD (BC),A`, R152, format B1: 00000010 -/
  | ldBcA
  /-- `LD (DE),A`, R153, format B1: 00010010 -/
  | ldDeA
  /-- `LD (nn),A`, R154, format B3nn: 00110010 llllllll hhhhhhhh -/
  | ldMemA (nn : Word)
  /-- `LD A,I`, R155, format ED2: 11101101 01010111 -/
  | ldAI
  /-- `LD A,R`, R156, format ED2: 11101101 01011111 -/
  | ldAR
  /-- `LD I,A`, R157, format ED2: 11101101 01000111 -/
  | ldIA
  /-- `LD R,A`, R158, format ED2: 11101101 01001111 -/
  | ldRA
  /-- `LD r,r' (half-register forms)`, R159, format X2: 11i11101 01rrrsss -/
  | ldHalf (xy : Index) (r : HReg) (r' : HReg)
  /-- `LD XYh/XYl,n`, R160, format X3n: 11i11101 00rrr110 nnnnnnnn -/
  | ldHalfN (xy : Index) (hf : Half) (n : Byte)
  -- 16-bit loads, stack and exchanges (spec/41_load16_exchange.md)
  /-- `LD dd,nn`, R170, format B3nn: 00pp0001 llllllll hhhhhhhh -/
  | ldDdNn (dd : Pair) (nn : Word)
  /-- `LD XY,nn`, R171, format X4nn: 11i11101 00100001 llllllll hhhhhhhh -/
  | ldXyNn (xy : Index) (nn : Word)
  /-- `LD HL,(nn)`, R172, format B3nn: 00101010 llllllll hhhhhhhh -/
  | ldHlMem (nn : Word)
  /-- `LD dd,(nn)`, R173, format ED4nn: 11101101 01pp1011 llllllll hhhhhhhh -/
  | ldDdMem (dd : Pair) (nn : Word)
  /-- `LD XY,(nn)`, R174, format X4nn: 11i11101 00101010 llllllll hhhhhhhh -/
  | ldXyMem (xy : Index) (nn : Word)
  /-- `LD (nn),HL`, R175, format B3nn: 00100010 llllllll hhhhhhhh -/
  | ldMemHl (nn : Word)
  /-- `LD (nn),dd`, R176, format ED4nn: 11101101 01pp0011 llllllll hhhhhhhh -/
  | ldMemDd (nn : Word) (dd : Pair)
  /-- `LD (nn),XY`, R177, format X4nn: 11i11101 00100010 llllllll hhhhhhhh -/
  | ldMemXy (nn : Word) (xy : Index)
  /-- `LD SP,HL`, R178, format B1: 11111001 -/
  | ldSpHl
  /-- `LD SP,XY`, R179, format X2: 11i11101 11111001 -/
  | ldSpXy (xy : Index)
  /-- `PUSH qq`, R180, format B1: 11qq0101 -/
  | pushQq (qq : StackPair)
  /-- `PUSH XY`, R181, format X2: 11i11101 11100101 -/
  | pushXy (xy : Index)
  /-- `POP qq`, R182, format B1: 11qq0001 -/
  | popQq (qq : StackPair)
  /-- `POP XY`, R183, format X2: 11i11101 11100001 -/
  | popXy (xy : Index)
  /-- `EX DE,HL`, R184, format B1: 11101011 -/
  | exDeHl
  /-- `EX AF,AF'`, R185, format B1: 00001000 -/
  | exAfAf
  /-- `EXX`, R186, format B1: 11011001 -/
  | exx
  /-- `EX (SP),HL`, R187, format B1: 11100011 -/
  | exSpHl
  /-- `EX (SP),XY`, R188, format X2: 11i11101 11100011 -/
  | exSpXy (xy : Index)
  -- block transfer and search (spec/42_block.md)
  /-- `LDI`, R200, format ED2: 11101101 10100000 -/
  | ldi
  /-- `LDIR`, R201, format ED2: 11101101 10110000 -/
  | ldir
  /-- `LDD`, R202, format ED2: 11101101 10101000 -/
  | ldd
  /-- `LDDR`, R203, format ED2: 11101101 10111000 -/
  | lddr
  /-- `CPI`, R204, format ED2: 11101101 10100001 -/
  | cpi
  /-- `CPIR`, R205, format ED2: 11101101 10110001 -/
  | cpir
  /-- `CPD`, R206, format ED2: 11101101 10101001 -/
  | cpd
  /-- `CPDR`, R207, format ED2: 11101101 10111001 -/
  | cpdr
  -- 8-bit arithmetic and logic (spec/43_alu8.md)
  /-- `ADD A,r`, R222, format B1: 10000rrr -/
  | addR (r : Reg8)
  /-- `ADD A,n`, R222, format B2n: 11000110 nnnnnnnn -/
  | addN (n : Byte)
  /-- `ADD A,(HL)`, R222, format B1: 10000110 -/
  | addHl
  /-- `ADD A,(XY+d)`, R222, format X3d: 11i11101 10000110 dddddddd -/
  | addXyd (xy : Index) (d : Byte)
  /-- `ADD A,XYh/XYl`, R222, format X2: 11i11101 1000010x -/
  | addHalf (xy : Index) (hf : Half)
  /-- `ADC A,r`, R223, format B1: 10001rrr -/
  | adcR (r : Reg8)
  /-- `ADC A,n`, R223, format B2n: 11001110 nnnnnnnn -/
  | adcN (n : Byte)
  /-- `ADC A,(HL)`, R223, format B1: 10001110 -/
  | adcHl
  /-- `ADC A,(XY+d)`, R223, format X3d: 11i11101 10001110 dddddddd -/
  | adcXyd (xy : Index) (d : Byte)
  /-- `ADC A,XYh/XYl`, R223, format X2: 11i11101 1000110x -/
  | adcHalf (xy : Index) (hf : Half)
  /-- `SUB r`, R224, format B1: 10010rrr -/
  | subR (r : Reg8)
  /-- `SUB n`, R224, format B2n: 11010110 nnnnnnnn -/
  | subN (n : Byte)
  /-- `SUB (HL)`, R224, format B1: 10010110 -/
  | subHl
  /-- `SUB (XY+d)`, R224, format X3d: 11i11101 10010110 dddddddd -/
  | subXyd (xy : Index) (d : Byte)
  /-- `SUB XYh/XYl`, R224, format X2: 11i11101 1001010x -/
  | subHalf (xy : Index) (hf : Half)
  /-- `SBC A,r`, R225, format B1: 10011rrr -/
  | sbcR (r : Reg8)
  /-- `SBC A,n`, R225, format B2n: 11011110 nnnnnnnn -/
  | sbcN (n : Byte)
  /-- `SBC A,(HL)`, R225, format B1: 10011110 -/
  | sbcHl
  /-- `SBC A,(XY+d)`, R225, format X3d: 11i11101 10011110 dddddddd -/
  | sbcXyd (xy : Index) (d : Byte)
  /-- `SBC A,XYh/XYl`, R225, format X2: 11i11101 1001110x -/
  | sbcHalf (xy : Index) (hf : Half)
  /-- `AND r`, R226, format B1: 10100rrr -/
  | andR (r : Reg8)
  /-- `AND n`, R226, format B2n: 11100110 nnnnnnnn -/
  | andN (n : Byte)
  /-- `AND (HL)`, R226, format B1: 10100110 -/
  | andHl
  /-- `AND (XY+d)`, R226, format X3d: 11i11101 10100110 dddddddd -/
  | andXyd (xy : Index) (d : Byte)
  /-- `AND XYh/XYl`, R226, format X2: 11i11101 1010010x -/
  | andHalf (xy : Index) (hf : Half)
  /-- `XOR r`, R227, format B1: 10101rrr -/
  | xorR (r : Reg8)
  /-- `XOR n`, R227, format B2n: 11101110 nnnnnnnn -/
  | xorN (n : Byte)
  /-- `XOR (HL)`, R227, format B1: 10101110 -/
  | xorHl
  /-- `XOR (XY+d)`, R227, format X3d: 11i11101 10101110 dddddddd -/
  | xorXyd (xy : Index) (d : Byte)
  /-- `XOR XYh/XYl`, R227, format X2: 11i11101 1010110x -/
  | xorHalf (xy : Index) (hf : Half)
  /-- `OR r`, R228, format B1: 10110rrr -/
  | orR (r : Reg8)
  /-- `OR n`, R228, format B2n: 11110110 nnnnnnnn -/
  | orN (n : Byte)
  /-- `OR (HL)`, R228, format B1: 10110110 -/
  | orHl
  /-- `OR (XY+d)`, R228, format X3d: 11i11101 10110110 dddddddd -/
  | orXyd (xy : Index) (d : Byte)
  /-- `OR XYh/XYl`, R228, format X2: 11i11101 1011010x -/
  | orHalf (xy : Index) (hf : Half)
  /-- `CP r`, R229, format B1: 10111rrr -/
  | cpR (r : Reg8)
  /-- `CP n`, R229, format B2n: 11111110 nnnnnnnn -/
  | cpN (n : Byte)
  /-- `CP (HL)`, R229, format B1: 10111110 -/
  | cpHl
  /-- `CP (XY+d)`, R229, format X3d: 11i11101 10111110 dddddddd -/
  | cpXyd (xy : Index) (d : Byte)
  /-- `CP XYh/XYl`, R229, format X2: 11i11101 1011110x -/
  | cpHalf (xy : Index) (hf : Half)
  /-- `INC r`, R230, format B1: 00rrr100 -/
  | incR (r : Reg8)
  /-- `INC (HL)`, R230, format B1: 00110100 -/
  | incHl
  /-- `INC (XY+d)`, R230, format X3d: 11i11101 00110100 dddddddd -/
  | incXyd (xy : Index) (d : Byte)
  /-- `INC XYh/XYl`, R230, format X2: 11i11101 00rrr100 -/
  | incHalf (xy : Index) (hf : Half)
  /-- `DEC r`, R231, format B1: 00rrr101 -/
  | decR (r : Reg8)
  /-- `DEC (HL)`, R231, format B1: 00110101 -/
  | decHl
  /-- `DEC (XY+d)`, R231, format X3d: 11i11101 00110101 dddddddd -/
  | decXyd (xy : Index) (d : Byte)
  /-- `DEC XYh/XYl`, R231, format X2: 11i11101 00rrr101 -/
  | decHalf (xy : Index) (hf : Half)
  -- general arithmetic and CPU control (spec/44_general_control.md)
  /-- `DAA`, R250, format B1: 00100111 -/
  | daa
  /-- `CPL`, R251, format B1: 00101111 -/
  | cpl
  /-- `NEG`, R252, format ED2: 11101101 01yyy100 -/
  | neg
  /-- `NEG (duplicate)`, R252, format ED2: 11101101 01yyy100 -/
  | negDup (y : BitVec 3)
  /-- `CCF`, R253, format B1: 00111111 -/
  | ccf
  /-- `SCF`, R254, format B1: 00110111 -/
  | scf
  /-- `NOP`, R255, format B1: 00000000 -/
  | nop
  /-- `HALT`, R256, format B1: 01110110 -/
  | halt
  /-- `DI`, R257, format B1: 11110011 -/
  | di
  /-- `EI`, R258, format B1: 11111011 -/
  | ei
  /-- `IM 0`, R259, format ED2: 11101101 01yyy110 -/
  | im0
  /-- `IM 0 (duplicate)`, R259, format ED2: 11101101 01yyy110 -/
  | im0Dup (y : BitVec 3)
  /-- `IM 1`, R260, format ED2: 11101101 01yyy110 -/
  | im1
  /-- `IM 1 (duplicate)`, R260, format ED2: 11101101 01yyy110 -/
  | im1Dup
  /-- `IM 2`, R261, format ED2: 11101101 01yyy110 -/
  | im2
  /-- `IM 2 (duplicate)`, R261, format ED2: 11101101 01yyy110 -/
  | im2Dup
  /-- `NOP* (ED 00-3F)`, R262, format ED2: 11101101 00uuuuuu -/
  | nopEd00 (u : BitVec 6)
  /-- `NOP* (ED 80-9F)`, R262, format ED2: 11101101 100uuuuu -/
  | nopEd80 (u : BitVec 5)
  /-- `NOP* (ED A4-A7,AC-AF,B4-B7,BC-BF)`, R262, format ED2: 11101101 101uu1uu -/
  | nopEdA4 (u : BitVec 2) (v : BitVec 2)
  /-- `NOP* (ED C0-FF)`, R262, format ED2: 11101101 11uuuuuu -/
  | nopEdC0 (u : BitVec 6)
  /-- `NOP* (ED 77,7F)`, R262, format ED2: 11101101 0111u111 -/
  | nopEd77 (u : BitVec 1)
  -- 16-bit arithmetic (spec/45_alu16.md)
  /-- `ADD HL,ss`, R270, format B1: 00pp1001 -/
  | addHlSs (ss : Pair)
  /-- `ADC HL,ss`, R271, format ED2: 11101101 01pp1010 -/
  | adcHlSs (ss : Pair)
  /-- `SBC HL,ss`, R272, format ED2: 11101101 01pp0010 -/
  | sbcHlSs (ss : Pair)
  /-- `ADD XY,pp`, R273, format X2: 11i11101 00pp1001 -/
  | addXyPp (xy : Index) (pp : IndexPair)
  /-- `INC ss`, R274, format B1: 00pp0011 -/
  | incSs (ss : Pair)
  /-- `INC XY`, R275, format X2: 11i11101 00100011 -/
  | incXy (xy : Index)
  /-- `DEC ss`, R276, format B1: 00pp1011 -/
  | decSs (ss : Pair)
  /-- `DEC XY`, R277, format X2: 11i11101 00101011 -/
  | decXy (xy : Index)
  -- rotates and shifts (spec/46_rotate_shift.md)
  /-- `RLCA`, R285, format B1: 00000111 -/
  | rlca
  /-- `RLA`, R286, format B1: 00010111 -/
  | rla
  /-- `RRCA`, R287, format B1: 00001111 -/
  | rrca
  /-- `RRA`, R288, format B1: 00011111 -/
  | rra
  /-- `RLC r`, R290, format CB2: 11001011 00000rrr -/
  | rlcR (r : Reg8)
  /-- `RLC (HL)`, R290, format CB2: 11001011 00000110 -/
  | rlcHl
  /-- `RLC (XY+d)`, R290, format X4cb: 11i11101 11001011 dddddddd 00000110 -/
  | rlcXyd (xy : Index) (d : Byte)
  /-- `RLC (XY+d),r`, R298, format X4cb: 11i11101 11001011 dddddddd 00000rrr -/
  | rlcXydR (xy : Index) (d : Byte) (r : Reg8)
  /-- `RRC r`, R291, format CB2: 11001011 00001rrr -/
  | rrcR (r : Reg8)
  /-- `RRC (HL)`, R291, format CB2: 11001011 00001110 -/
  | rrcHl
  /-- `RRC (XY+d)`, R291, format X4cb: 11i11101 11001011 dddddddd 00001110 -/
  | rrcXyd (xy : Index) (d : Byte)
  /-- `RRC (XY+d),r`, R298, format X4cb: 11i11101 11001011 dddddddd 00001rrr -/
  | rrcXydR (xy : Index) (d : Byte) (r : Reg8)
  /-- `RL r`, R292, format CB2: 11001011 00010rrr -/
  | rlR (r : Reg8)
  /-- `RL (HL)`, R292, format CB2: 11001011 00010110 -/
  | rlHl
  /-- `RL (XY+d)`, R292, format X4cb: 11i11101 11001011 dddddddd 00010110 -/
  | rlXyd (xy : Index) (d : Byte)
  /-- `RL (XY+d),r`, R298, format X4cb: 11i11101 11001011 dddddddd 00010rrr -/
  | rlXydR (xy : Index) (d : Byte) (r : Reg8)
  /-- `RR r`, R293, format CB2: 11001011 00011rrr -/
  | rrR (r : Reg8)
  /-- `RR (HL)`, R293, format CB2: 11001011 00011110 -/
  | rrHl
  /-- `RR (XY+d)`, R293, format X4cb: 11i11101 11001011 dddddddd 00011110 -/
  | rrXyd (xy : Index) (d : Byte)
  /-- `RR (XY+d),r`, R298, format X4cb: 11i11101 11001011 dddddddd 00011rrr -/
  | rrXydR (xy : Index) (d : Byte) (r : Reg8)
  /-- `SLA r`, R294, format CB2: 11001011 00100rrr -/
  | slaR (r : Reg8)
  /-- `SLA (HL)`, R294, format CB2: 11001011 00100110 -/
  | slaHl
  /-- `SLA (XY+d)`, R294, format X4cb: 11i11101 11001011 dddddddd 00100110 -/
  | slaXyd (xy : Index) (d : Byte)
  /-- `SLA (XY+d),r`, R298, format X4cb: 11i11101 11001011 dddddddd 00100rrr -/
  | slaXydR (xy : Index) (d : Byte) (r : Reg8)
  /-- `SRA r`, R295, format CB2: 11001011 00101rrr -/
  | sraR (r : Reg8)
  /-- `SRA (HL)`, R295, format CB2: 11001011 00101110 -/
  | sraHl
  /-- `SRA (XY+d)`, R295, format X4cb: 11i11101 11001011 dddddddd 00101110 -/
  | sraXyd (xy : Index) (d : Byte)
  /-- `SRA (XY+d),r`, R298, format X4cb: 11i11101 11001011 dddddddd 00101rrr -/
  | sraXydR (xy : Index) (d : Byte) (r : Reg8)
  /-- `SLL r`, R296, format CB2: 11001011 00110rrr -/
  | sllR (r : Reg8)
  /-- `SLL (HL)`, R296, format CB2: 11001011 00110110 -/
  | sllHl
  /-- `SLL (XY+d)`, R296, format X4cb: 11i11101 11001011 dddddddd 00110110 -/
  | sllXyd (xy : Index) (d : Byte)
  /-- `SLL (XY+d),r`, R298, format X4cb: 11i11101 11001011 dddddddd 00110rrr -/
  | sllXydR (xy : Index) (d : Byte) (r : Reg8)
  /-- `SRL r`, R297, format CB2: 11001011 00111rrr -/
  | srlR (r : Reg8)
  /-- `SRL (HL)`, R297, format CB2: 11001011 00111110 -/
  | srlHl
  /-- `SRL (XY+d)`, R297, format X4cb: 11i11101 11001011 dddddddd 00111110 -/
  | srlXyd (xy : Index) (d : Byte)
  /-- `SRL (XY+d),r`, R298, format X4cb: 11i11101 11001011 dddddddd 00111rrr -/
  | srlXydR (xy : Index) (d : Byte) (r : Reg8)
  /-- `RLD`, R299, format ED2: 11101101 01101111 -/
  | rld
  /-- `RRD`, R300, format ED2: 11101101 01100111 -/
  | rrd
  -- bit set, reset and test (spec/47_bit.md)
  /-- `BIT b,r`, R310, format CB2: 11001011 01bbbrrr -/
  | bitR (b : BitVec 3) (r : Reg8)
  /-- `BIT b,(HL)`, R311, format CB2: 11001011 01bbb110 -/
  | bitHl (b : BitVec 3)
  /-- `BIT b,(XY+d)`, R312, format X4cb: 11i11101 11001011 dddddddd 01bbb110 -/
  | bitXyd (b : BitVec 3) (xy : Index) (d : Byte)
  /-- `BIT b,(XY+d) (duplicate)`, R312, format X4cb: 11i11101 11001011 dddddddd 01bbbrrr -/
  | bitXydDup (b : BitVec 3) (xy : Index) (d : Byte) (r : Reg8)
  /-- `RES b,r`, R313, format CB2: 11001011 10bbbrrr -/
  | resR (b : BitVec 3) (r : Reg8)
  /-- `RES b,(HL)`, R313, format CB2: 11001011 10bbb110 -/
  | resHl (b : BitVec 3)
  /-- `RES b,(XY+d)`, R313, format X4cb: 11i11101 11001011 dddddddd 10bbb110 -/
  | resXyd (b : BitVec 3) (xy : Index) (d : Byte)
  /-- `RES b,(XY+d),r`, R314, format X4cb: 11i11101 11001011 dddddddd 10bbbrrr -/
  | resXydR (b : BitVec 3) (xy : Index) (d : Byte) (r : Reg8)
  /-- `SET b,r`, R315, format CB2: 11001011 11bbbrrr -/
  | setR (b : BitVec 3) (r : Reg8)
  /-- `SET b,(HL)`, R315, format CB2: 11001011 11bbb110 -/
  | setHl (b : BitVec 3)
  /-- `SET b,(XY+d)`, R315, format X4cb: 11i11101 11001011 dddddddd 11bbb110 -/
  | setXyd (b : BitVec 3) (xy : Index) (d : Byte)
  /-- `SET b,(XY+d),r`, R316, format X4cb: 11i11101 11001011 dddddddd 11bbbrrr -/
  | setXydR (b : BitVec 3) (xy : Index) (d : Byte) (r : Reg8)
  -- jumps, calls and returns (spec/48_jump_call.md)
  /-- `JP nn`, R331, format B3nn: 11000011 llllllll hhhhhhhh -/
  | jpNn (nn : Word)
  /-- `JP cc,nn`, R332, format B3nn: 11ccc010 llllllll hhhhhhhh -/
  | jpCcNn (cc : Cond) (nn : Word)
  /-- `JR e`, R333, format B2e: 00011000 eeeeeeee -/
  | jrE (e : Byte)
  /-- `JR cc,e`, R334, format B2e: 001cc000 eeeeeeee -/
  | jrCcE (cc : RelCond) (e : Byte)
  /-- `JP (HL)`, R335, format B1: 11101001 -/
  | jpHl
  /-- `JP (XY)`, R336, format X2: 11i11101 11101001 -/
  | jpXy (xy : Index)
  /-- `DJNZ e`, R337, format B2e: 00010000 eeeeeeee -/
  | djnzE (e : Byte)
  /-- `CALL nn`, R338, format B3nn: 11001101 llllllll hhhhhhhh -/
  | callNn (nn : Word)
  /-- `CALL cc,nn`, R339, format B3nn: 11ccc100 llllllll hhhhhhhh -/
  | callCcNn (cc : Cond) (nn : Word)
  /-- `RET`, R340, format B1: 11001001 -/
  | ret
  /-- `RET cc`, R341, format B1: 11ccc000 -/
  | retCc (cc : Cond)
  /-- `RETI`, R342, format ED2: 11101101 01001101 -/
  | reti
  /-- `RETN`, R343, format ED2: 11101101 01yyy101 -/
  | retn
  /-- `RETN (duplicate)`, R343, format ED2: 11101101 01yyy101 -/
  | retnDup (y : BitVec 3)
  /-- `RST p`, R344, format B1: 11ttt111 -/
  | rstP (p : BitVec 3)
  -- input and output (spec/49_io.md)
  /-- `IN A,(n)`, R361, format B2n: 11011011 nnnnnnnn -/
  | inAN (n : Byte)
  /-- `IN r,(C)`, R362, format ED2: 11101101 01rrr000 -/
  | inRC (r : Reg8)
  /-- `IN F,(C)`, R363, format ED2: 11101101 01110000 -/
  | inFC
  /-- `INI`, R364, format ED2: 11101101 10100010 -/
  | ini
  /-- `INIR`, R365, format ED2: 11101101 10110010 -/
  | inir
  /-- `IND`, R366, format ED2: 11101101 10101010 -/
  | ind
  /-- `INDR`, R367, format ED2: 11101101 10111010 -/
  | indr
  /-- `OUT (n),A`, R368, format B2n: 11010011 nnnnnnnn -/
  | outNA (n : Byte)
  /-- `OUT (C),r`, R369, format ED2: 11101101 01rrr001 -/
  | outCR (r : Reg8)
  /-- `OUT (C),0`, R370, format ED2: 11101101 01110001 -/
  | outC0
  /-- `OUTI`, R371, format ED2: 11101101 10100011 -/
  | outi
  /-- `OTIR`, R372, format ED2: 11101101 10110011 -/
  | otir
  /-- `OUTD`, R373, format ED2: 11101101 10101011 -/
  | outd
  /-- `OTDR`, R374, format ED2: 11101101 10111011 -/
  | otdr
deriving DecidableEq, Repr

end Sys2Proof
end

