-- ==== Sys2Proof/WellFormed.lean ====
section
/-! DEFINITION. Which terms of `Instr` stand for a row of spec/opcode_table.json with an allowed field value
(the row's `field_values` and `exclude`, spec/30_encoding.md R119). The operand types exclude register code 110
already, so four checks are left. -/

namespace Sys2Proof

/-- The register is a half of the index register (R159). -/
def HReg.isHalf : HReg → Bool
  | .xh | .xl => true
  | .b | .c | .d | .e | .a => false

/-- R159: a half-register load names a half in at least one field. R252: a NEG duplicate has y from 1 to 7.
R259: an IM 0 duplicate has y = 1, 4 or 5. R343: a RETN duplicate has y from 2 to 7. Every other term is well
formed. -/
def Instr.wellFormed : Instr → Bool
  | .ldHalf _ r r' => r.isHalf || r'.isHalf
  | .negDup y => y != 0#3
  | .im0Dup y => y == 1#3 || y == 4#3 || y == 5#3
  | .retnDup y => y != 0#3 && y != 1#3
  | .ldRR .. | .ldRN .. | .ldRHl .. | .ldRXyd .. | .ldHlR .. | .ldXydR .. | .ldHlN .. | .ldXydN .. | .ldABc ..
  | .ldADe .. | .ldAMem .. | .ldBcA .. | .ldDeA .. | .ldMemA .. | .ldAI .. | .ldAR .. | .ldIA .. | .ldRA ..
  | .ldHalfN .. | .ldDdNn .. | .ldXyNn .. | .ldHlMem .. | .ldDdMem .. | .ldXyMem .. | .ldMemHl .. | .ldMemDd ..
  | .ldMemXy .. | .ldSpHl .. | .ldSpXy .. | .pushQq .. | .pushXy .. | .popQq .. | .popXy .. | .exDeHl ..
  | .exAfAf .. | .exx .. | .exSpHl .. | .exSpXy .. | .ldi .. | .ldir .. | .ldd .. | .lddr .. | .cpi .. | .cpir ..
  | .cpd .. | .cpdr .. | .addR .. | .addN .. | .addHl .. | .addXyd .. | .addHalf .. | .adcR .. | .adcN ..
  | .adcHl .. | .adcXyd .. | .adcHalf .. | .subR .. | .subN .. | .subHl .. | .subXyd .. | .subHalf .. | .sbcR ..
  | .sbcN .. | .sbcHl .. | .sbcXyd .. | .sbcHalf .. | .andR .. | .andN .. | .andHl .. | .andXyd .. | .andHalf ..
  | .xorR .. | .xorN .. | .xorHl .. | .xorXyd .. | .xorHalf .. | .orR .. | .orN .. | .orHl .. | .orXyd ..
  | .orHalf .. | .cpR .. | .cpN .. | .cpHl .. | .cpXyd .. | .cpHalf .. | .incR .. | .incHl .. | .incXyd ..
  | .incHalf .. | .decR .. | .decHl .. | .decXyd .. | .decHalf .. | .daa .. | .cpl .. | .neg .. | .ccf .. | .scf ..
  | .nop .. | .halt .. | .di .. | .ei .. | .im0 .. | .im1 .. | .im1Dup .. | .im2 .. | .im2Dup .. | .nopEd00 ..
  | .nopEd80 .. | .nopEdA4 .. | .nopEdC0 .. | .nopEd77 .. | .addHlSs .. | .adcHlSs .. | .sbcHlSs .. | .addXyPp ..
  | .incSs .. | .incXy .. | .decSs .. | .decXy .. | .rlca .. | .rla .. | .rrca .. | .rra .. | .rlcR .. | .rlcHl ..
  | .rlcXyd .. | .rlcXydR .. | .rrcR .. | .rrcHl .. | .rrcXyd .. | .rrcXydR .. | .rlR .. | .rlHl .. | .rlXyd ..
  | .rlXydR .. | .rrR .. | .rrHl .. | .rrXyd .. | .rrXydR .. | .slaR .. | .slaHl .. | .slaXyd .. | .slaXydR ..
  | .sraR .. | .sraHl .. | .sraXyd .. | .sraXydR .. | .sllR .. | .sllHl .. | .sllXyd .. | .sllXydR .. | .srlR ..
  | .srlHl .. | .srlXyd .. | .srlXydR .. | .rld .. | .rrd .. | .bitR .. | .bitHl .. | .bitXyd .. | .bitXydDup ..
  | .resR .. | .resHl .. | .resXyd .. | .resXydR .. | .setR .. | .setHl .. | .setXyd .. | .setXydR .. | .jpNn ..
  | .jpCcNn .. | .jrE .. | .jrCcE .. | .jpHl .. | .jpXy .. | .djnzE .. | .callNn .. | .callCcNn .. | .ret ..
  | .retCc .. | .reti .. | .retn .. | .rstP .. | .inAN .. | .inRC .. | .inFC .. | .ini .. | .inir .. | .ind ..
  | .indr .. | .outNA .. | .outCR .. | .outC0 .. | .outi .. | .otir .. | .outd .. | .otdr .. => true

/-- The well-formedness predicate of the statements. -/
abbrev WellFormed (i : Instr) : Prop := i.wellFormed = true

end Sys2Proof
end

