-- ==== Sys2Proof/Decode.lean ====
section
/-! DEFINITION. The decoder of spec/30_encoding.md (the prefix tree R100, R110 to R118, the tables R127 to R131)
and, after it, the encoder written from the same tables. Decoding reads bytes only (R117). No byte sequence is
illegal (R124): the only answer that is no instruction is `Decoded.absorbed`, an index prefix without a
recognised continuation (R112). -/

namespace Sys2Proof

/-! ### Fields of an opcode byte (R102) -/

/-- `x`: op[7:6]. -/
def opX (op : Byte) : BitVec 2 := op.extractLsb' 6 2

/-- `y`: op[5:3]. -/
def opY (op : Byte) : BitVec 3 := op.extractLsb' 3 3

/-- `z`: op[2:0]. -/
def opZ (op : Byte) : BitVec 3 := op.extractLsb' 0 3

/-- `p`: op[5:4]. -/
def opP (op : Byte) : BitVec 2 := op.extractLsb' 4 2

/-- `q`: op[3]. -/
def opQ (op : Byte) : Bool := op.getLsbD 3

/-- The concatenation `hi:lo` of two bytes (R7). -/
def joinBytes (hi lo : Byte) : Word := hi ++ lo

/-- Bits 7 to 0 of a word. -/
def loByte (w : Word) : Byte := w.extractLsb' 0 8

/-- Bits 15 to 8 of a word. -/
def hiByte (w : Word) : Byte := w.extractLsb' 8 8

/-- Two's complement widening `sext_16` (R7). -/
def sext16 (b : Byte) : Word := b.signExtend 16

/-! ### Codes of registers, pairs and conditions (R104, R105, R106) -/

/-- R104, plain column: none for code 110, the memory operand. -/
def Reg8.ofCode (k : BitVec 3) : Option Reg8 :=
  if k = 0#3 then some .b else if k = 1#3 then some .c else if k = 2#3 then some .d
  else if k = 3#3 then some .e else if k = 4#3 then some .h else if k = 5#3 then some .l
  else if k = 6#3 then none else some .a

/-- R104, half-register column: none for code 110. -/
def HReg.ofCode (k : BitVec 3) : Option HReg :=
  if k = 0#3 then some .b else if k = 1#3 then some .c else if k = 2#3 then some .d
  else if k = 3#3 then some .e else if k = 4#3 then some .xh else if k = 5#3 then some .xl
  else if k = 6#3 then none else some .a

/-- The half a register code names in the forms that take only a half (R160, R221, R230, R231). -/
def Half.ofCode (k : BitVec 3) : Option Half :=
  if k = 4#3 then some .hi else if k = 5#3 then some .lo else none

/-- R105, column dd/ss. -/
def Pair.ofCode (k : BitVec 2) : Pair :=
  if k = 0#2 then .bc else if k = 1#2 then .de else if k = 2#2 then .hl else .sp

/-- R105, column qq. -/
def StackPair.ofCode (k : BitVec 2) : StackPair :=
  if k = 0#2 then .bc else if k = 1#2 then .de else if k = 2#2 then .hl else .af

/-- R105, column pp. -/
def IndexPair.ofCode (k : BitVec 2) : IndexPair :=
  if k = 0#2 then .bc else if k = 1#2 then .de else if k = 2#2 then .xy else .sp

/-- R106. -/
def Cond.ofCode (k : BitVec 3) : Cond :=
  if k = 0#3 then .nz else if k = 1#3 then .z else if k = 2#3 then .nc else if k = 3#3 then .c
  else if k = 4#3 then .po else if k = 5#3 then .pe else if k = 6#3 then .p else .m

/-- R106, R334: the 2-bit condition code of JR cc, bits 4:3. -/
def RelCond.ofCode (k : BitVec 2) : RelCond :=
  if k = 0#2 then .nz else if k = 1#2 then .z else if k = 2#2 then .nc else .c

/-! ### Rows that an operation code selects -/

/-- R221: the operation code `ooo` with a register operand. -/
def aluReg (o : BitVec 3) (r : Reg8) : Instr :=
  if o = 0#3 then .addR r else if o = 1#3 then .adcR r else if o = 2#3 then .subR r
  else if o = 3#3 then .sbcR r else if o = 4#3 then .andR r else if o = 5#3 then .xorR r
  else if o = 6#3 then .orR r else .cpR r

/-- R221: the operation code with an immediate. -/
def aluImm (o : BitVec 3) (n : Byte) : Instr :=
  if o = 0#3 then .addN n else if o = 1#3 then .adcN n else if o = 2#3 then .subN n
  else if o = 3#3 then .sbcN n else if o = 4#3 then .andN n else if o = 5#3 then .xorN n
  else if o = 6#3 then .orN n else .cpN n

/-- R221: the operation code with the operand (HL). -/
def aluHl (o : BitVec 3) : Instr :=
  if o = 0#3 then .addHl else if o = 1#3 then .adcHl else if o = 2#3 then .subHl
  else if o = 3#3 then .sbcHl else if o = 4#3 then .andHl else if o = 5#3 then .xorHl
  else if o = 6#3 then .orHl else .cpHl

/-- R221: the operation code with an indexed operand. -/
def aluXyd (o : BitVec 3) (xy : Index) (d : Byte) : Instr :=
  if o = 0#3 then .addXyd xy d else if o = 1#3 then .adcXyd xy d else if o = 2#3 then .subXyd xy d
  else if o = 3#3 then .sbcXyd xy d else if o = 4#3 then .andXyd xy d else if o = 5#3 then .xorXyd xy d
  else if o = 6#3 then .orXyd xy d else .cpXyd xy d

/-- R221: the operation code with an index half. -/
def aluHalf (o : BitVec 3) (xy : Index) (hf : Half) : Instr :=
  if o = 0#3 then .addHalf xy hf else if o = 1#3 then .adcHalf xy hf else if o = 2#3 then .subHalf xy hf
  else if o = 3#3 then .sbcHalf xy hf else if o = 4#3 then .andHalf xy hf else if o = 5#3 then .xorHalf xy hf
  else if o = 6#3 then .orHalf xy hf else .cpHalf xy hf

/-- R289: the rotate or shift code `ooo` with a register operand. -/
def rotReg (o : BitVec 3) (r : Reg8) : Instr :=
  if o = 0#3 then .rlcR r else if o = 1#3 then .rrcR r else if o = 2#3 then .rlR r
  else if o = 3#3 then .rrR r else if o = 4#3 then .slaR r else if o = 5#3 then .sraR r
  else if o = 6#3 then .sllR r else .srlR r

/-- R289: the rotate or shift code with the operand (HL). -/
def rotHl (o : BitVec 3) : Instr :=
  if o = 0#3 then .rlcHl else if o = 1#3 then .rrcHl else if o = 2#3 then .rlHl
  else if o = 3#3 then .rrHl else if o = 4#3 then .slaHl else if o = 5#3 then .sraHl
  else if o = 6#3 then .sllHl else .srlHl

/-- R289: the rotate or shift code with an indexed operand. -/
def rotXyd (o : BitVec 3) (xy : Index) (d : Byte) : Instr :=
  if o = 0#3 then .rlcXyd xy d else if o = 1#3 then .rrcXyd xy d else if o = 2#3 then .rlXyd xy d
  else if o = 3#3 then .rrXyd xy d else if o = 4#3 then .slaXyd xy d else if o = 5#3 then .sraXyd xy d
  else if o = 6#3 then .sllXyd xy d else .srlXyd xy d

/-- R298: the rotate or shift code with an indexed operand and a copy register. -/
def rotXydR (o : BitVec 3) (xy : Index) (d : Byte) (r : Reg8) : Instr :=
  if o = 0#3 then .rlcXydR xy d r else if o = 1#3 then .rrcXydR xy d r else if o = 2#3 then .rlXydR xy d r
  else if o = 3#3 then .rrXydR xy d r else if o = 4#3 then .slaXydR xy d r else if o = 5#3 then .sraXydR xy d r
  else if o = 6#3 then .sllXydR xy d r else .srlXydR xy d r

/-! ### The base table (R127) -/

/-- Rows of the base table with `x = 0`. -/
def decodeBase0 (op n : Byte) (nn : Word) : Instr :=
  let y := opY op
  let z := opZ op
  if z = 0#3 then
    if y = 0#3 then .nop else if y = 1#3 then .exAfAf else if y = 2#3 then .djnzE n
    else if y = 3#3 then .jrE n else .jrCcE (.ofCode (op.extractLsb' 3 2)) n
  else if z = 1#3 then
    if opQ op then .addHlSs (.ofCode (opP op)) else .ldDdNn (.ofCode (opP op)) nn
  else if z = 2#3 then
    if y = 0#3 then .ldBcA else if y = 1#3 then .ldABc else if y = 2#3 then .ldDeA
    else if y = 3#3 then .ldADe else if y = 4#3 then .ldMemHl nn else if y = 5#3 then .ldHlMem nn
    else if y = 6#3 then .ldMemA nn else .ldAMem nn
  else if z = 3#3 then
    if opQ op then .decSs (.ofCode (opP op)) else .incSs (.ofCode (opP op))
  else if z = 4#3 then
    match Reg8.ofCode y with
    | some r => .incR r
    | none => .incHl
  else if z = 5#3 then
    match Reg8.ofCode y with
    | some r => .decR r
    | none => .decHl
  else if z = 6#3 then
    match Reg8.ofCode y with
    | some r => .ldRN r n
    | none => .ldHlN n
  else
    if y = 0#3 then .rlca else if y = 1#3 then .rrca else if y = 2#3 then .rla
    else if y = 3#3 then .rra else if y = 4#3 then .daa else if y = 5#3 then .cpl
    else if y = 6#3 then .scf else .ccf

/-- Rows of the base table with `x = 1`: the loads, and HALT where `LD (HL),(HL)` would be (R141, R256). -/
def decodeBase1 (op : Byte) : Instr :=
  match Reg8.ofCode (opY op), Reg8.ofCode (opZ op) with
  | some r, some r' => .ldRR r r'
  | some r, none => .ldRHl r
  | none, some r' => .ldHlR r'
  | none, none => .halt

/-- Rows of the base table with `x = 2`: the 8-bit arithmetic and logic operations (R221). -/
def decodeBase2 (op : Byte) : Instr :=
  match Reg8.ofCode (opZ op) with
  | some r => aluReg (opY op) r
  | none => aluHl (opY op)

/-- Rows of the base table with `x = 3`; none for the four prefix bytes CB, DD, ED and FD (R100). -/
def decodeBase3 (op n : Byte) (nn : Word) : Option Instr :=
  let y := opY op
  let z := opZ op
  if z = 0#3 then some (.retCc (.ofCode y))
  else if z = 1#3 then
    if opQ op then
      if opP op = 0#2 then some .ret else if opP op = 1#2 then some .exx
      else if opP op = 2#2 then some .jpHl else some .ldSpHl
    else some (.popQq (.ofCode (opP op)))
  else if z = 2#3 then some (.jpCcNn (.ofCode y) nn)
  else if z = 3#3 then
    if y = 0#3 then some (.jpNn nn) else if y = 1#3 then none else if y = 2#3 then some (.outNA n)
    else if y = 3#3 then some (.inAN n) else if y = 4#3 then some .exSpHl else if y = 5#3 then some .exDeHl
    else if y = 6#3 then some .di else some .ei
  else if z = 4#3 then some (.callCcNn (.ofCode y) nn)
  else if z = 5#3 then
    if opQ op then
      if opP op = 0#2 then some (.callNn nn) else none
    else some (.pushQq (.ofCode (opP op)))
  else if z = 6#3 then some (aluImm y n)
  else some (.rstP y)

/-- The base table (R127); none for a prefix byte. `n` is the byte after the opcode, `nn` the two bytes. -/
def decodeBase (op n : Byte) (nn : Word) : Option Instr :=
  if opX op = 0#2 then some (decodeBase0 op n nn)
  else if opX op = 1#2 then some (decodeBase1 op)
  else if opX op = 2#2 then some (decodeBase2 op)
  else decodeBase3 op n nn

/-! ### The CB table (R128) -/

/-- The CB table, total over its 256 bytes. -/
def decodeCb (op : Byte) : Instr :=
  let y := opY op
  match Reg8.ofCode (opZ op) with
  | some r =>
    if opX op = 0#2 then rotReg y r else if opX op = 1#2 then .bitR y r
    else if opX op = 2#2 then .resR y r else .setR y r
  | none =>
    if opX op = 0#2 then rotHl y else if opX op = 1#2 then .bitHl y
    else if opX op = 2#2 then .resHl y else .setHl y

/-! ### The ED table (R129) -/

/-- The IM row that `y` selects (R259, R260, R261). -/
def decodeIm (y : BitVec 3) : Instr :=
  if y = 0#3 then .im0 else if y = 2#3 then .im1 else if y = 3#3 then .im2
  else if y = 6#3 then .im1Dup else if y = 7#3 then .im2Dup else .im0Dup y

/-- ED bytes with `x = 1`. -/
def decodeEd1 (op : Byte) (nn : Word) : Instr :=
  let y := opY op
  let z := opZ op
  if z = 0#3 then
    match Reg8.ofCode y with
    | some r => .inRC r
    | none => .inFC
  else if z = 1#3 then
    match Reg8.ofCode y with
    | some r => .outCR r
    | none => .outC0
  else if z = 2#3 then
    if opQ op then .adcHlSs (.ofCode (opP op)) else .sbcHlSs (.ofCode (opP op))
  else if z = 3#3 then
    if opQ op then .ldDdMem (.ofCode (opP op)) nn else .ldMemDd nn (.ofCode (opP op))
  else if z = 4#3 then (if y = 0#3 then .neg else .negDup y)
  else if z = 5#3 then (if y = 0#3 then .retn else if y = 1#3 then .reti else .retnDup y)
  else if z = 6#3 then decodeIm y
  else
    if y = 0#3 then .ldIA else if y = 1#3 then .ldRA else if y = 2#3 then .ldAI
    else if y = 3#3 then .ldAR else if y = 4#3 then .rrd else if y = 5#3 then .rld
    else .nopEd77 (op.extractLsb' 3 1)

/-- ED bytes A0 to BF: the block instructions, and NOP* where bit 2 is set. -/
def decodeEdBlock (op : Byte) : Instr :=
  if op.getLsbD 2 then .nopEdA4 (op.extractLsb' 3 2) (op.extractLsb' 0 2)
  else
    let y := op.extractLsb' 3 2
    let z := op.extractLsb' 0 2
    if z = 0#2 then
      (if y = 0#2 then .ldi else if y = 1#2 then .ldd else if y = 2#2 then .ldir else .lddr)
    else if z = 1#2 then
      (if y = 0#2 then .cpi else if y = 1#2 then .cpd else if y = 2#2 then .cpir else .cpdr)
    else if z = 2#2 then
      (if y = 0#2 then .ini else if y = 1#2 then .ind else if y = 2#2 then .inir else .indr)
    else
      (if y = 0#2 then .outi else if y = 1#2 then .outd else if y = 2#2 then .otir else .otdr)

/-- The ED table: 78 instructions, the other 178 bytes NOP* (R262). -/
def decodeEd (op : Byte) (nn : Word) : Instr :=
  if opX op = 0#2 then .nopEd00 (op.extractLsb' 0 6)
  else if opX op = 1#2 then decodeEd1 op nn
  else if opX op = 2#2 then
    (if op.getLsbD 5 then decodeEdBlock op else .nopEd80 (op.extractLsb' 0 5))
  else .nopEdC0 (op.extractLsb' 0 6)

/-! ### The DD and FD tables (R111, R130) -/

/-- IndexSet bytes with `x = 0`. `b2` and `b3` are the bytes after the opcode. -/
def decodeIndex0 (xy : Index) (op b2 b3 : Byte) : Option Instr :=
  let nn := joinBytes b3 b2
  if opZ op = 1#3 ∧ opQ op = true then some (.addXyPp xy (.ofCode (opP op)))
  else if op = 0x21#8 then some (.ldXyNn xy nn)
  else if op = 0x22#8 then some (.ldMemXy nn xy)
  else if op = 0x2A#8 then some (.ldXyMem xy nn)
  else if op = 0x23#8 then some (.incXy xy)
  else if op = 0x2B#8 then some (.decXy xy)
  else if op = 0x34#8 then some (.incXyd xy b2)
  else if op = 0x35#8 then some (.decXyd xy b2)
  else if op = 0x36#8 then some (.ldXydN xy b2 b3)
  else
    match Half.ofCode (opY op) with
    | none => none
    | some hf =>
      if opZ op = 4#3 then some (.incHalf xy hf)
      else if opZ op = 5#3 then some (.decHalf xy hf)
      else if opZ op = 6#3 then some (.ldHalfN xy hf b2)
      else none

/-- IndexSet bytes with `x = 1`: indexed loads and stores and half-register loads; 0x76 and the bytes that
name neither H, L nor (HL) are not in the set. -/
def decodeIndex1 (xy : Index) (op d : Byte) : Option Instr :=
  match HReg.ofCode (opY op), HReg.ofCode (opZ op) with
  | some r, some r' => if r.isHalf || r'.isHalf then some (.ldHalf xy r r') else none
  | _, _ =>
    match Reg8.ofCode (opY op), Reg8.ofCode (opZ op) with
    | some r, none => some (.ldRXyd r xy d)
    | none, some r' => some (.ldXydR xy d r')
    | _, _ => none

/-- IndexSet bytes with `x = 2`: the 8-bit operations on an index half or an indexed byte (R221). -/
def decodeIndex2 (xy : Index) (op d : Byte) : Option Instr :=
  if opZ op = 6#3 then some (aluXyd (opY op) xy d)
  else
    match Half.ofCode (opZ op) with
    | some hf => some (aluHalf (opY op) xy hf)
    | none => none

/-- IndexSet bytes with `x = 3`. -/
def decodeIndex3 (xy : Index) (op : Byte) : Option Instr :=
  if op = 0xE1#8 then some (.popXy xy)
  else if op = 0xE3#8 then some (.exSpXy xy)
  else if op = 0xE5#8 then some (.pushXy xy)
  else if op = 0xE9#8 then some (.jpXy xy)
  else if op = 0xF9#8 then some (.ldSpXy xy)
  else none

/-- The DD/FD table (R130): none for a byte outside IndexSet. -/
def decodeIndex (xy : Index) (op b2 b3 : Byte) : Option Instr :=
  if opX op = 0#2 then decodeIndex0 xy op b2 b3
  else if opX op = 1#2 then decodeIndex1 xy op b2
  else if opX op = 2#2 then decodeIndex2 xy op b2
  else decodeIndex3 xy op

/-! ### The DDCB and FDCB tables (R113, R131) -/

/-- The instruction of `P CB d op`, total over `op`. -/
def decodeIndexCb (xy : Index) (d op : Byte) : Instr :=
  let y := opY op
  match Reg8.ofCode (opZ op) with
  | some r =>
    if opX op = 0#2 then rotXydR y xy d r else if opX op = 1#2 then .bitXydDup y xy d r
    else if opX op = 2#2 then .resXydR y xy d r else .setXydR y xy d r
  | none =>
    if opX op = 0#2 then rotXyd y xy d else if opX op = 1#2 then .bitXyd y xy d
    else if opX op = 2#2 then .resXyd y xy d else .setXyd y xy d

/-! ### The whole decoder (R110) -/

/-- What the bytes at one address are. -/
inductive Decoded where
  /-- an instruction whose template starts here -/
  | row (i : Instr)
  /-- an index prefix without a recognised continuation: absorbed, decoding goes on at the next byte (R112) -/
  | absorbed
deriving DecidableEq, Repr

/-- The DD/FD level (R110, R111, R113). -/
def decodePrefixed (xy : Index) (b1 b2 b3 : Byte) : Decoded :=
  if b1 = 0xCB#8 then .row (decodeIndexCb xy b2 b3)
  else
    match decodeIndex xy b1 b2 b3 with
    | some i => .row i
    | none => .absorbed

/-- One turn of R110's loop: the four bytes from the decode address on. -/
def decodeTemplate (b0 b1 b2 b3 : Byte) : Decoded :=
  if b0 = 0xDD#8 then decodePrefixed .ix b1 b2 b3
  else if b0 = 0xFD#8 then decodePrefixed .iy b1 b2 b3
  else if b0 = 0xCB#8 then .row (decodeCb b1)
  else if b0 = 0xED#8 then .row (decodeEd b1 (joinBytes b3 b2))
  else
    match decodeBase b0 b1 (joinBytes b2 b1) with
    | some i => .row i
    | none => .absorbed

/-- R110's loop from address `a` on, with `k` prefixes absorbed so far: the number of absorbed prefixes and the
instruction, or none when the fuel is spent (R118). `rd` reads the byte at an address. -/
def decodeFrom (rd : Word → Byte) (a : Word) : Nat → Nat → Option (Nat × Instr)
  | 0, _ => none
  | fuel + 1, k =>
    let p := a + BitVec.ofNat 16 k
    match decodeTemplate (rd p) (rd (p + 1#16)) (rd (p + 2#16)) (rd (p + 3#16)) with
    | .row i => some (k, i)
    | .absorbed => decodeFrom rd a fuel (k + 1)

/-- `Decode(a)` (R110): none stands for `fault PrefixChainUnbounded` after 65536 absorbed prefixes (R118). -/
def decodeAt (rd : Word → Byte) (a : Word) : Option (Nat × Instr) := decodeFrom rd a 65536 0

/-- Decoding the front of a list of bytes; a missing byte reads as 0. -/
def decodeBytes (bs : List Byte) : Decoded :=
  decodeTemplate (bs.getD 0 0#8) (bs.getD 1 0#8) (bs.getD 2 0#8) (bs.getD 3 0#8)

/-! ### Formats (R103) -/

/-- The template length in bytes (R101, R103). -/
def Format.length : Format → Nat
  | .b1 => 1
  | .b2n | .b2e | .cb2 | .ed2 | .x2 => 2
  | .b3nn | .x3d | .x3n => 3
  | .ed4nn | .x4dn | .x4nn | .x4cb => 4

/-- The number of opcode fetches (R110 `m1`, R122): 1 for a base row, else 2. -/
def Format.m1 : Format → Nat
  | .b1 | .b2n | .b2e | .b3nn => 1
  | .cb2 | .ed2 | .ed4nn | .x2 | .x3d | .x3n | .x4dn | .x4nn | .x4cb => 2

/-- The format of each row (the `format` column of spec/opcode_table.json). -/
def Instr.format : Instr → Format
  | .ldRR .. | .ldRHl .. | .ldHlR .. | .ldABc .. | .ldADe .. | .ldBcA .. | .ldDeA .. | .ldSpHl .. | .pushQq ..
  | .popQq .. | .exDeHl .. | .exAfAf .. | .exx .. | .exSpHl .. | .addR .. | .addHl .. | .adcR .. | .adcHl ..
  | .subR .. | .subHl .. | .sbcR .. | .sbcHl .. | .andR .. | .andHl .. | .xorR .. | .xorHl .. | .orR ..
  | .orHl .. | .cpR .. | .cpHl .. | .incR .. | .incHl .. | .decR .. | .decHl .. | .daa .. | .cpl .. | .ccf ..
  | .scf .. | .nop .. | .halt .. | .di .. | .ei .. | .addHlSs .. | .incSs .. | .decSs .. | .rlca .. | .rla ..
  | .rrca .. | .rra .. | .jpHl .. | .ret .. | .retCc .. | .rstP .. => .b1
  | .ldRN .. | .ldHlN .. | .addN .. | .adcN .. | .subN .. | .sbcN .. | .andN .. | .xorN .. | .orN .. | .cpN ..
  | .inAN .. | .outNA .. => .b2n
  | .jrE .. | .jrCcE .. | .djnzE .. => .b2e
  | .ldAMem .. | .ldMemA .. | .ldDdNn .. | .ldHlMem .. | .ldMemHl .. | .jpNn .. | .jpCcNn .. | .callNn ..
  | .callCcNn .. => .b3nn
  | .rlcR .. | .rlcHl .. | .rrcR .. | .rrcHl .. | .rlR .. | .rlHl .. | .rrR .. | .rrHl .. | .slaR ..
  | .slaHl .. | .sraR .. | .sraHl .. | .sllR .. | .sllHl .. | .srlR .. | .srlHl .. | .bitR .. | .bitHl ..
  | .resR .. | .resHl .. | .setR .. | .setHl .. => .cb2
  | .ldAI .. | .ldAR .. | .ldIA .. | .ldRA .. | .ldi .. | .ldir .. | .ldd .. | .lddr .. | .cpi .. | .cpir ..
  | .cpd .. | .cpdr .. | .neg .. | .negDup .. | .im0 .. | .im0Dup .. | .im1 .. | .im1Dup .. | .im2 ..
  | .im2Dup .. | .nopEd00 .. | .nopEd80 .. | .nopEdA4 .. | .nopEdC0 .. | .nopEd77 .. | .adcHlSs ..
  | .sbcHlSs .. | .rld .. | .rrd .. | .reti .. | .retn .. | .retnDup .. | .inRC .. | .inFC .. | .ini ..
  | .inir .. | .ind .. | .indr .. | .outCR .. | .outC0 .. | .outi .. | .otir .. | .outd .. | .otdr .. => .ed2
  | .ldDdMem .. | .ldMemDd .. => .ed4nn
  | .ldHalf .. | .ldSpXy .. | .pushXy .. | .popXy .. | .exSpXy .. | .addHalf .. | .adcHalf .. | .subHalf ..
  | .sbcHalf .. | .andHalf .. | .xorHalf .. | .orHalf .. | .cpHalf .. | .incHalf .. | .decHalf .. | .addXyPp ..
  | .incXy .. | .decXy .. | .jpXy .. => .x2
  | .ldRXyd .. | .ldXydR .. | .addXyd .. | .adcXyd .. | .subXyd .. | .sbcXyd .. | .andXyd .. | .xorXyd ..
  | .orXyd .. | .cpXyd .. | .incXyd .. | .decXyd .. => .x3d
  | .ldHalfN .. => .x3n
  | .ldXydN .. => .x4dn
  | .ldXyNn .. | .ldXyMem .. | .ldMemXy .. => .x4nn
  | .rlcXyd .. | .rlcXydR .. | .rrcXyd .. | .rrcXydR .. | .rlXyd .. | .rlXydR .. | .rrXyd .. | .rrXydR ..
  | .slaXyd .. | .slaXydR .. | .sraXyd .. | .sraXydR .. | .sllXyd .. | .sllXydR .. | .srlXyd .. | .srlXydR ..
  | .bitXyd .. | .bitXydDup .. | .resXyd .. | .resXydR .. | .setXyd .. | .setXydR .. => .x4cb

/-! ### The encoder: the template bytes of an instruction (R102 to R107, R127 to R131) -/

/-- R104, plain column. -/
def Reg8.code : Reg8 → BitVec 3
  | .b => 0#3 | .c => 1#3 | .d => 2#3 | .e => 3#3 | .h => 4#3 | .l => 5#3 | .a => 7#3

/-- R104, half-register column. -/
def HReg.code : HReg → BitVec 3
  | .b => 0#3 | .c => 1#3 | .d => 2#3 | .e => 3#3 | .xh => 4#3 | .xl => 5#3 | .a => 7#3

/-- The register code of an index half (R104). -/
def Half.code : Half → BitVec 3
  | .hi => 4#3 | .lo => 5#3

/-- The half-register select bit `x` (R102, R221). -/
def Half.bit : Half → BitVec 1
  | .hi => 0#1 | .lo => 1#1

/-- R105, column dd/ss. -/
def Pair.code : Pair → BitVec 2
  | .bc => 0#2 | .de => 1#2 | .hl => 2#2 | .sp => 3#2

/-- R105, column qq. -/
def StackPair.code : StackPair → BitVec 2
  | .bc => 0#2 | .de => 1#2 | .hl => 2#2 | .af => 3#2

/-- R105, column pp. -/
def IndexPair.code : IndexPair → BitVec 2
  | .bc => 0#2 | .de => 1#2 | .xy => 2#2 | .sp => 3#2

/-- R106. -/
def Cond.code : Cond → BitVec 3
  | .nz => 0#3 | .z => 1#3 | .nc => 2#3 | .c => 3#3 | .po => 4#3 | .pe => 5#3 | .p => 6#3 | .m => 7#3

/-- R106: the 2-bit code of JR cc. -/
def RelCond.code : RelCond → BitVec 2
  | .nz => 0#2 | .z => 1#2 | .nc => 2#2 | .c => 3#2

/-- The index prefix `11i11101` (R103). -/
def Index.prefixByte : Index → Byte
  | .ix => 0xDD#8 | .iy => 0xFD#8

/-- The template bytes of an instruction, lowest address first (the `encoding` column of
spec/opcode_table.json). -/
def encode : Instr → List Byte
  | .ldRR r r' => [0b01#2 ++ r.code ++ r'.code]
  | .ldRN r n => [0b00#2 ++ r.code ++ 0b110#3, n]
  | .ldRHl r => [0b01#2 ++ r.code ++ 0b110#3]
  | .ldRXyd r xy d => [xy.prefixByte, 0b01#2 ++ r.code ++ 0b110#3, d]
  | .ldHlR r => [0b01110#5 ++ r.code]
  | .ldXydR xy d r => [xy.prefixByte, 0b01110#5 ++ r.code, d]
  | .ldHlN n => [0x36#8, n]
  | .ldXydN xy d n => [xy.prefixByte, 0x36#8, d, n]
  | .ldABc => [0x0A#8]
  | .ldADe => [0x1A#8]
  | .ldAMem nn => [0x3A#8, loByte nn, hiByte nn]
  | .ldBcA => [0x02#8]
  | .ldDeA => [0x12#8]
  | .ldMemA nn => [0x32#8, loByte nn, hiByte nn]
  | .ldAI => [0xED#8, 0x57#8]
  | .ldAR => [0xED#8, 0x5F#8]
  | .ldIA => [0xED#8, 0x47#8]
  | .ldRA => [0xED#8, 0x4F#8]
  | .ldHalf xy r r' => [xy.prefixByte, 0b01#2 ++ r.code ++ r'.code]
  | .ldHalfN xy hf n => [xy.prefixByte, 0b00#2 ++ hf.code ++ 0b110#3, n]
  | .ldDdNn dd nn => [0b00#2 ++ dd.code ++ 0b0001#4, loByte nn, hiByte nn]
  | .ldXyNn xy nn => [xy.prefixByte, 0x21#8, loByte nn, hiByte nn]
  | .ldHlMem nn => [0x2A#8, loByte nn, hiByte nn]
  | .ldDdMem dd nn => [0xED#8, 0b01#2 ++ dd.code ++ 0b1011#4, loByte nn, hiByte nn]
  | .ldXyMem xy nn => [xy.prefixByte, 0x2A#8, loByte nn, hiByte nn]
  | .ldMemHl nn => [0x22#8, loByte nn, hiByte nn]
  | .ldMemDd nn dd => [0xED#8, 0b01#2 ++ dd.code ++ 0b0011#4, loByte nn, hiByte nn]
  | .ldMemXy nn xy => [xy.prefixByte, 0x22#8, loByte nn, hiByte nn]
  | .ldSpHl => [0xF9#8]
  | .ldSpXy xy => [xy.prefixByte, 0xF9#8]
  | .pushQq qq => [0b11#2 ++ qq.code ++ 0b0101#4]
  | .pushXy xy => [xy.prefixByte, 0xE5#8]
  | .popQq qq => [0b11#2 ++ qq.code ++ 0b0001#4]
  | .popXy xy => [xy.prefixByte, 0xE1#8]
  | .exDeHl => [0xEB#8]
  | .exAfAf => [0x08#8]
  | .exx => [0xD9#8]
  | .exSpHl => [0xE3#8]
  | .exSpXy xy => [xy.prefixByte, 0xE3#8]
  | .ldi => [0xED#8, 0xA0#8]
  | .ldir => [0xED#8, 0xB0#8]
  | .ldd => [0xED#8, 0xA8#8]
  | .lddr => [0xED#8, 0xB8#8]
  | .cpi => [0xED#8, 0xA1#8]
  | .cpir => [0xED#8, 0xB1#8]
  | .cpd => [0xED#8, 0xA9#8]
  | .cpdr => [0xED#8, 0xB9#8]
  | .addR r => [0b10000#5 ++ r.code]
  | .addN n => [0xC6#8, n]
  | .addHl => [0x86#8]
  | .addXyd xy d => [xy.prefixByte, 0x86#8, d]
  | .addHalf xy hf => [xy.prefixByte, 0b1000010#7 ++ hf.bit]
  | .adcR r => [0b10001#5 ++ r.code]
  | .adcN n => [0xCE#8, n]
  | .adcHl => [0x8E#8]
  | .adcXyd xy d => [xy.prefixByte, 0x8E#8, d]
  | .adcHalf xy hf => [xy.prefixByte, 0b1000110#7 ++ hf.bit]
  | .subR r => [0b10010#5 ++ r.code]
  | .subN n => [0xD6#8, n]
  | .subHl => [0x96#8]
  | .subXyd xy d => [xy.prefixByte, 0x96#8, d]
  | .subHalf xy hf => [xy.prefixByte, 0b1001010#7 ++ hf.bit]
  | .sbcR r => [0b10011#5 ++ r.code]
  | .sbcN n => [0xDE#8, n]
  | .sbcHl => [0x9E#8]
  | .sbcXyd xy d => [xy.prefixByte, 0x9E#8, d]
  | .sbcHalf xy hf => [xy.prefixByte, 0b1001110#7 ++ hf.bit]
  | .andR r => [0b10100#5 ++ r.code]
  | .andN n => [0xE6#8, n]
  | .andHl => [0xA6#8]
  | .andXyd xy d => [xy.prefixByte, 0xA6#8, d]
  | .andHalf xy hf => [xy.prefixByte, 0b1010010#7 ++ hf.bit]
  | .xorR r => [0b10101#5 ++ r.code]
  | .xorN n => [0xEE#8, n]
  | .xorHl => [0xAE#8]
  | .xorXyd xy d => [xy.prefixByte, 0xAE#8, d]
  | .xorHalf xy hf => [xy.prefixByte, 0b1010110#7 ++ hf.bit]
  | .orR r => [0b10110#5 ++ r.code]
  | .orN n => [0xF6#8, n]
  | .orHl => [0xB6#8]
  | .orXyd xy d => [xy.prefixByte, 0xB6#8, d]
  | .orHalf xy hf => [xy.prefixByte, 0b1011010#7 ++ hf.bit]
  | .cpR r => [0b10111#5 ++ r.code]
  | .cpN n => [0xFE#8, n]
  | .cpHl => [0xBE#8]
  | .cpXyd xy d => [xy.prefixByte, 0xBE#8, d]
  | .cpHalf xy hf => [xy.prefixByte, 0b1011110#7 ++ hf.bit]
  | .incR r => [0b00#2 ++ r.code ++ 0b100#3]
  | .incHl => [0x34#8]
  | .incXyd xy d => [xy.prefixByte, 0x34#8, d]
  | .incHalf xy hf => [xy.prefixByte, 0b00#2 ++ hf.code ++ 0b100#3]
  | .decR r => [0b00#2 ++ r.code ++ 0b101#3]
  | .decHl => [0x35#8]
  | .decXyd xy d => [xy.prefixByte, 0x35#8, d]
  | .decHalf xy hf => [xy.prefixByte, 0b00#2 ++ hf.code ++ 0b101#3]
  | .daa => [0x27#8]
  | .cpl => [0x2F#8]
  | .neg => [0xED#8, 0x44#8]
  | .negDup y => [0xED#8, 0b01#2 ++ y ++ 0b100#3]
  | .ccf => [0x3F#8]
  | .scf => [0x37#8]
  | .nop => [0x00#8]
  | .halt => [0x76#8]
  | .di => [0xF3#8]
  | .ei => [0xFB#8]
  | .im0 => [0xED#8, 0x46#8]
  | .im0Dup y => [0xED#8, 0b01#2 ++ y ++ 0b110#3]
  | .im1 => [0xED#8, 0x56#8]
  | .im1Dup => [0xED#8, 0x76#8]
  | .im2 => [0xED#8, 0x5E#8]
  | .im2Dup => [0xED#8, 0x7E#8]
  | .nopEd00 u => [0xED#8, 0b00#2 ++ u]
  | .nopEd80 u => [0xED#8, 0b100#3 ++ u]
  | .nopEdA4 u v => [0xED#8, 0b101#3 ++ u ++ 0b1#1 ++ v]
  | .nopEdC0 u => [0xED#8, 0b11#2 ++ u]
  | .nopEd77 u => [0xED#8, 0b0111#4 ++ u ++ 0b111#3]
  | .addHlSs ss => [0b00#2 ++ ss.code ++ 0b1001#4]
  | .adcHlSs ss => [0xED#8, 0b01#2 ++ ss.code ++ 0b1010#4]
  | .sbcHlSs ss => [0xED#8, 0b01#2 ++ ss.code ++ 0b0010#4]
  | .addXyPp xy pp => [xy.prefixByte, 0b00#2 ++ pp.code ++ 0b1001#4]
  | .incSs ss => [0b00#2 ++ ss.code ++ 0b0011#4]
  | .incXy xy => [xy.prefixByte, 0x23#8]
  | .decSs ss => [0b00#2 ++ ss.code ++ 0b1011#4]
  | .decXy xy => [xy.prefixByte, 0x2B#8]
  | .rlca => [0x07#8]
  | .rla => [0x17#8]
  | .rrca => [0x0F#8]
  | .rra => [0x1F#8]
  | .rlcR r => [0xCB#8, 0b00000#5 ++ r.code]
  | .rlcHl => [0xCB#8, 0x06#8]
  | .rlcXyd xy d => [xy.prefixByte, 0xCB#8, d, 0x06#8]
  | .rlcXydR xy d r => [xy.prefixByte, 0xCB#8, d, 0b00000#5 ++ r.code]
  | .rrcR r => [0xCB#8, 0b00001#5 ++ r.code]
  | .rrcHl => [0xCB#8, 0x0E#8]
  | .rrcXyd xy d => [xy.prefixByte, 0xCB#8, d, 0x0E#8]
  | .rrcXydR xy d r => [xy.prefixByte, 0xCB#8, d, 0b00001#5 ++ r.code]
  | .rlR r => [0xCB#8, 0b00010#5 ++ r.code]
  | .rlHl => [0xCB#8, 0x16#8]
  | .rlXyd xy d => [xy.prefixByte, 0xCB#8, d, 0x16#8]
  | .rlXydR xy d r => [xy.prefixByte, 0xCB#8, d, 0b00010#5 ++ r.code]
  | .rrR r => [0xCB#8, 0b00011#5 ++ r.code]
  | .rrHl => [0xCB#8, 0x1E#8]
  | .rrXyd xy d => [xy.prefixByte, 0xCB#8, d, 0x1E#8]
  | .rrXydR xy d r => [xy.prefixByte, 0xCB#8, d, 0b00011#5 ++ r.code]
  | .slaR r => [0xCB#8, 0b00100#5 ++ r.code]
  | .slaHl => [0xCB#8, 0x26#8]
  | .slaXyd xy d => [xy.prefixByte, 0xCB#8, d, 0x26#8]
  | .slaXydR xy d r => [xy.prefixByte, 0xCB#8, d, 0b00100#5 ++ r.code]
  | .sraR r => [0xCB#8, 0b00101#5 ++ r.code]
  | .sraHl => [0xCB#8, 0x2E#8]
  | .sraXyd xy d => [xy.prefixByte, 0xCB#8, d, 0x2E#8]
  | .sraXydR xy d r => [xy.prefixByte, 0xCB#8, d, 0b00101#5 ++ r.code]
  | .sllR r => [0xCB#8, 0b00110#5 ++ r.code]
  | .sllHl => [0xCB#8, 0x36#8]
  | .sllXyd xy d => [xy.prefixByte, 0xCB#8, d, 0x36#8]
  | .sllXydR xy d r => [xy.prefixByte, 0xCB#8, d, 0b00110#5 ++ r.code]
  | .srlR r => [0xCB#8, 0b00111#5 ++ r.code]
  | .srlHl => [0xCB#8, 0x3E#8]
  | .srlXyd xy d => [xy.prefixByte, 0xCB#8, d, 0x3E#8]
  | .srlXydR xy d r => [xy.prefixByte, 0xCB#8, d, 0b00111#5 ++ r.code]
  | .rld => [0xED#8, 0x6F#8]
  | .rrd => [0xED#8, 0x67#8]
  | .bitR b r => [0xCB#8, 0b01#2 ++ b ++ r.code]
  | .bitHl b => [0xCB#8, 0b01#2 ++ b ++ 0b110#3]
  | .bitXyd b xy d => [xy.prefixByte, 0xCB#8, d, 0b01#2 ++ b ++ 0b110#3]
  | .bitXydDup b xy d r => [xy.prefixByte, 0xCB#8, d, 0b01#2 ++ b ++ r.code]
  | .resR b r => [0xCB#8, 0b10#2 ++ b ++ r.code]
  | .resHl b => [0xCB#8, 0b10#2 ++ b ++ 0b110#3]
  | .resXyd b xy d => [xy.prefixByte, 0xCB#8, d, 0b10#2 ++ b ++ 0b110#3]
  | .resXydR b xy d r => [xy.prefixByte, 0xCB#8, d, 0b10#2 ++ b ++ r.code]
  | .setR b r => [0xCB#8, 0b11#2 ++ b ++ r.code]
  | .setHl b => [0xCB#8, 0b11#2 ++ b ++ 0b110#3]
  | .setXyd b xy d => [xy.prefixByte, 0xCB#8, d, 0b11#2 ++ b ++ 0b110#3]
  | .setXydR b xy d r => [xy.prefixByte, 0xCB#8, d, 0b11#2 ++ b ++ r.code]
  | .jpNn nn => [0xC3#8, loByte nn, hiByte nn]
  | .jpCcNn cc nn => [0b11#2 ++ cc.code ++ 0b010#3, loByte nn, hiByte nn]
  | .jrE e => [0x18#8, e]
  | .jrCcE cc e => [0b001#3 ++ cc.code ++ 0b000#3, e]
  | .jpHl => [0xE9#8]
  | .jpXy xy => [xy.prefixByte, 0xE9#8]
  | .djnzE e => [0x10#8, e]
  | .callNn nn => [0xCD#8, loByte nn, hiByte nn]
  | .callCcNn cc nn => [0b11#2 ++ cc.code ++ 0b100#3, loByte nn, hiByte nn]
  | .ret => [0xC9#8]
  | .retCc cc => [0b11#2 ++ cc.code ++ 0b000#3]
  | .reti => [0xED#8, 0x4D#8]
  | .retn => [0xED#8, 0x45#8]
  | .retnDup y => [0xED#8, 0b01#2 ++ y ++ 0b101#3]
  | .rstP p => [0b11#2 ++ p ++ 0b111#3]
  | .inAN n => [0xDB#8, n]
  | .inRC r => [0xED#8, 0b01#2 ++ r.code ++ 0b000#3]
  | .inFC => [0xED#8, 0x70#8]
  | .ini => [0xED#8, 0xA2#8]
  | .inir => [0xED#8, 0xB2#8]
  | .ind => [0xED#8, 0xAA#8]
  | .indr => [0xED#8, 0xBA#8]
  | .outNA n => [0xD3#8, n]
  | .outCR r => [0xED#8, 0b01#2 ++ r.code ++ 0b001#3]
  | .outC0 => [0xED#8, 0x71#8]
  | .outi => [0xED#8, 0xA3#8]
  | .otir => [0xED#8, 0xB3#8]
  | .outd => [0xED#8, 0xAB#8]
  | .otdr => [0xED#8, 0xBB#8]

/-! ### Reading a row's number (the host's question; log entry 7) -/

/-- The `n` low bytes of `w`, the most significant first: spec/opcode_table.json writes a row's `fixed` and
`fields` in this order. -/
def bytesMsbFirst : Nat → Nat → List Byte
  | 0, _ => []
  | n + 1, w => bytesMsbFirst n (w / 256) ++ [BitVec.ofNat 8 w]

/-- The `n` low bytes of `w`, the least significant first. -/
def bytesLsbFirst : Nat → Nat → List Byte
  | 0, _ => []
  | n + 1, w => BitVec.ofNat 8 w :: bytesLsbFirst n (w / 256)

/-- The bytes decode to one instruction that takes exactly `n` of them. -/
def takesExactly (n : Nat) (bs : List Byte) : Bool :=
  match decodeBytes bs with
  | .row i => i.format.length == n
  | .absorbed => false

/-- The bytes, lowest address first, of the instruction that `spec/opcode_table.json` numbers `w` in `nbits`
bits, padded with zeros to four bytes. The table's numbers have the FIRST byte most significant; only where that
reading is no instruction of that length, and the opposite reading is, is the first byte the least significant
one (log entry 7). -/
def tableBytes (nbits w : Nat) : List Byte :=
  let n := nbits / 8
  let msb := bytesMsbFirst n w
  let lsb := bytesLsbFirst n w
  let bs := if takesExactly n msb then msb else if takesExactly n lsb then lsb else msb
  (bs ++ [0#8, 0#8, 0#8, 0#8]).take 4

/-- The instruction the decoder reads from a row's number. -/
def decodeTableWord (nbits w : Nat) : Option Instr :=
  match decodeBytes (tableBytes nbits w) with
  | .row i => some i
  | .absorbed => none

end Sys2Proof
end

