-- ==== Sys2Proof/Config.lean ====
section
/-! DEFINITION. The implementation parameters of spec/00_scope.md R6 and the free values of R8 and R10. -/

namespace Sys2Proof

/-- The two settings of the parameter UNDOC_FLAGS (spec/00_scope.md R10). -/
inductive UndocFlags where
  /-- every flag bit marked (u) takes the value its rule states -/
  | exact
  /-- every flag bit marked (u) is a draw -/
  | draw
deriving DecidableEq, Repr

/-- MaxAddress (R6, D1). -/
def Config.maxAddress : Nat := 0x10000

/-- UNDOC_FLAGS (R6): the value this hardware takes. -/
def Config.undocFlags : UndocFlags := .exact

/-- OUT_C0_VALUE (R6, D8): the byte `OUT (C),0` writes. -/
def Config.outC0Value : Byte := 0x00#8

/-- The first address of the pixel window (R6 "video windows"). -/
def Config.pixelBase : Nat := 0x4000

/-- The first address of the attribute window, which is the end of the pixel window. -/
def Config.attrBase : Nat := 0x5800

/-- The end of the attribute window. -/
def Config.attrEnd : Nat := 0x5B00

/-- FREE VALUE (R8 `draw()`, R10 `(draw)`, D10; log entry 3): the flag bits the n-th draw gives. Nothing
constrains it; an instruction uses only the bits its rule marks as drawn. -/
opaque Config.flagDraw : Nat → BitVec 8

/-- FREE VALUE (R80, D11; log entry 5): the oracle's answer to an `IoRead` of a port when the host has put
no answer into the state. Nothing constrains it. -/
opaque Config.ioRead : Nat → BitVec 16 → BitVec 8

end Sys2Proof
end

