-- ==== Sys2Proof/Machine/State.lean ====
section
/-! DEFINITION. The state of the block as plain data (spec/10_state.md R30 to R50, spec/20_memory.md R81), the
reasons a step can stop, and the state after reset. -/

namespace Sys2Proof.Machine

/-- Memory (R47): the addresses that do not hold 0x00, strictly rising. An unlisted address holds 0x00, the
contents reset gives (R50, R76). -/
abbrev Memory := List Host.Cell

/-- One register set (R30, R32). `f` is the flag byte S Z Y H X PV N C, bit 7 to bit 0 (R33). -/
structure RegSet where
  a : Byte
  f : Byte
  b : Byte
  c : Byte
  d : Byte
  e : Byte
  h : Byte
  l : Byte
deriving DecidableEq, Repr

/-- The interrupt mode `IM` (R42). -/
inductive IntMode where
  | im0 | im1 | im2
deriving DecidableEq, Repr

/-- What the host presents before a step (R120, R401). -/
inductive Event where
  /-- no event -/
  | none
  /-- the non-maskable interrupt -/
  | nmi
  /-- the maskable interrupt, with the byte the device puts on the data bus -/
  | int (bus : Byte)
deriving DecidableEq, Repr

/-- Why a step ends in a fault. -/
inductive Fault where
  /-- raised by the decoder in `Machine.execute` when 65536 consecutive positions from the PC on hold index
  prefixes that absorb (R118, R400); carries the PC of the step. Safe: the spec faults too. -/
  | prefixChainUnbounded (pc : Word)
deriving DecidableEq, Repr

/-- Why a step is refused. -/
inductive Refusal where
  /-- raised by `Machine.acceptInt` in mode 0 when the bus byte is no RST opcode (R404, R400); carries the bus
  byte. Safe: the spec refuses too. -/
  | im0BusNotRst (bus : Byte)
  /-- raised by no instruction of this model: the host's name for an instruction that has no meaning yet. -/
  | notModelled (mnemonic : String)
deriving DecidableEq, Repr

/-- The machine's state. -/
structure State where
  /-- the main register set (R30) -/
  main : RegSet
  /-- the alternate register set (R32) -/
  alt : RegSet
  /-- index register IX (R36) -/
  ix : Word
  /-- index register IY (R36) -/
  iy : Word
  /-- stack pointer (R37) -/
  sp : Word
  /-- program counter (R38) -/
  pc : Word
  /-- interrupt vector base register I (R39) -/
  regI : Byte
  /-- memory refresh register R (R40) -/
  regR : Byte
  /-- interrupt enable flip-flop 1 (R41) -/
  iff1 : Bool
  /-- interrupt enable flip-flop 2 (R41) -/
  iff2 : Bool
  /-- interrupt mode (R42) -/
  im : IntMode
  /-- the HALTED latch (R43) -/
  halted : Bool
  /-- the EI_SHADOW latch (R44) -/
  eiShadow : Bool
  /-- the cycle counter T (R45) -/
  t : Nat
  /-- memory (R47) -/
  mem : Memory
  /-- RomSize (R47): addresses below it are write-protected -/
  romSize : Nat
  /-- VideoMemoryChanged (R47, R78) -/
  videoChanged : Bool
  /-- the IoWrite history, oldest event first (R81) -/
  outHistory : List (Word × Byte)
  /-- the fault mark (R48) -/
  faultMark : Option Fault
  /-- the refused mark (R48) -/
  refusedMark : Option Refusal
  /-- the events the host presents before the coming steps, one a step; no event when the list is spent
  (R120, R445; log entry 4) -/
  events : List Event
  /-- the IoRead answers the host has ready; a free value when the list is spent (R80; log entry 5) -/
  inputs : List Byte
  /-- the model's own counter of free values, not the spec's (log entry 3) -/
  draws : Nat
deriving DecidableEq, Repr

/-- A register set holding zeros. -/
def RegSet.zero : RegSet :=
  { a := 0#8, f := 0#8, b := 0#8, c := 0#8, d := 0#8, e := 0#8, h := 0#8, l := 0#8 }

/-- The state after reset with the empty image (R50, R440). PC, I, R, IFF1, IFF2, IM, the latches, T, memory,
RomSize, VideoMemoryChanged, the marks and the history are as R50 and R440 state. DESIGN CHOICE (log entry 1):
the registers R50 leaves unspecified hold zero. -/
def State.reset : State where
  main := .zero
  alt := .zero
  ix := 0#16
  iy := 0#16
  sp := 0#16
  pc := 0#16
  regI := 0#8
  regR := 0#8
  iff1 := false
  iff2 := false
  im := .im0
  halted := false
  eiShadow := false
  t := 0
  mem := []
  romSize := 0
  videoChanged := true
  outHistory := []
  faultMark := none
  refusedMark := none
  events := []
  inputs := []
  draws := 0

/-- What an instruction's meaning answers. -/
abbrev Result := Host.Outcome State Fault Refusal

end Sys2Proof.Machine
end

