-- ==== Sys2Proof/Machine/Flags.lean ====
section
/-! DEFINITION. The flag byte bit by bit (spec/10_state.md R33), and every flag computation of the instruction
rules: R220 (SZXY, Add8, Sub8, Logic), R229 to R231, R250, R270 to R272, R285, R289, R299, R310, R200, R204, R364. -/

namespace Sys2Proof.Machine

/-- The eight status bits of F (R33). -/
structure Flags where
  s : Bool
  z : Bool
  y : Bool
  h : Bool
  x : Bool
  pv : Bool
  n : Bool
  c : Bool
deriving DecidableEq, Repr

/-- The flag byte with the given bits: S Z Y H X PV N C, bit 7 to bit 0 (R33). -/
def Flags.toByte (fl : Flags) : Byte :=
  BitVec.ofBool fl.s ++ BitVec.ofBool fl.z ++ BitVec.ofBool fl.y ++ BitVec.ofBool fl.h ++
    BitVec.ofBool fl.x ++ BitVec.ofBool fl.pv ++ BitVec.ofBool fl.n ++ BitVec.ofBool fl.c

/-- The bits of a flag byte (R33). -/
def Flags.ofByte (f : Byte) : Flags where
  s := f.getLsbD 7
  z := f.getLsbD 6
  y := f.getLsbD 5
  h := f.getLsbD 4
  x := f.getLsbD 3
  pv := f.getLsbD 2
  n := f.getLsbD 1
  c := f.getLsbD 0

/-- The flags of the main register set. -/
def State.flags (s : State) : Flags := .ofByte s.main.f

/-- A set of status bits, as the bits that are true. -/
def Flags.noBits : Flags := ⟨false, false, false, false, false, false, false, false⟩

/-- The bits Y and X. -/
def Flags.yxBits : Flags := ⟨false, false, true, false, true, false, false, false⟩

/-- The bits H, PV, X and Y: the draws of a continuing block I/O iteration (R365). -/
def Flags.repeatIoBits : Flags := ⟨false, false, true, true, true, true, false, false⟩

/-- Every bit but S and Z: the (u) bits of the block I/O instructions (R364). -/
def Flags.blockIoBits : Flags := ⟨false, false, true, true, true, true, true, true⟩

/-- The bits that are draws (R10): those marked `(draw)`, and those marked `(u)` when UNDOC_FLAGS is Draw. -/
def openBits (undoc drawn : Flags) : Flags :=
  match Config.undocFlags with
  | .exact => drawn
  | .draw =>
    { s := drawn.s || undoc.s, z := drawn.z || undoc.z, y := drawn.y || undoc.y, h := drawn.h || undoc.h,
      x := drawn.x || undoc.x, pv := drawn.pv || undoc.pv, n := drawn.n || undoc.n, c := drawn.c || undoc.c }

/-- `fl` with the bits of `open_` taken from `free`. -/
def Flags.withFree (fl open_ free : Flags) : Flags where
  s := if open_.s then free.s else fl.s
  z := if open_.z then free.z else fl.z
  y := if open_.y then free.y else fl.y
  h := if open_.h then free.h else fl.h
  x := if open_.x then free.x else fl.x
  pv := if open_.pv then free.pv else fl.pv
  n := if open_.n then free.n else fl.n
  c := if open_.c then free.c else fl.c

/-- Writes the flag byte as it is given. -/
def State.setF (f : Byte) (s : State) : State := { s with main := { s.main with f := f } }

/-- Writes the flags an instruction rule computes: `undoc` holds its `(u)` bits and `drawn` its `(draw)` bits
(R10). The draws come from `Config.flagDraw` at the state's counter, which is advanced when a bit is drawn. -/
def State.setFlags (fl undoc drawn : Flags) (s : State) : State :=
  if openBits undoc drawn = Flags.noBits then s.setF fl.toByte
  else { s.setF (fl.withFree (openBits undoc drawn) (.ofByte (Config.flagDraw s.draws))).toByte with
         draws := s.draws + 1 }

/-- `parity(v)` (R7): true when the byte has an even number of 1 bits. -/
def parity (v : Byte) : Bool :=
  !(v.getLsbD 0 ^^ v.getLsbD 1 ^^ v.getLsbD 2 ^^ v.getLsbD 3 ^^ v.getLsbD 4 ^^ v.getLsbD 5 ^^ v.getLsbD 6 ^^
    v.getLsbD 7)

/-- `SZXY(res)` (R220): S, Z, Y and X from a result byte, the other bits as they are. -/
def Flags.szxy (fl : Flags) (res : Byte) : Flags :=
  { fl with s := res.getLsbD 7, z := res == 0#8, y := res.getLsbD 5, x := res.getLsbD 3 }

/-- The result of an addition with carry, modulo 256 (R220 Add8). -/
def add8 (a b : Byte) (c : Bool) : Byte := BitVec.ofNat 8 (a.toNat + b.toNat + c.toNat)

/-- The flags of Add8 (R220). -/
def add8Flags (a b : Byte) (c : Bool) : Flags :=
  let res := add8 a b c
  { s := res.getLsbD 7
    z := res == 0#8
    y := res.getLsbD 5
    h := decide (a.toNat % 16 + b.toNat % 16 + c.toNat > 15)
    x := res.getLsbD 3
    pv := a.getLsbD 7 == b.getLsbD 7 && res.getLsbD 7 != a.getLsbD 7
    n := false
    c := decide (a.toNat + b.toNat + c.toNat > 255) }

/-- The result of a subtraction with borrow, modulo 256 (R220 Sub8). -/
def sub8 (a b : Byte) (c : Bool) : Byte := a - b - BitVec.ofNat 8 c.toNat

/-- The flags of Sub8 (R220): H and C are borrows. -/
def sub8Flags (a b : Byte) (c : Bool) : Flags :=
  let res := sub8 a b c
  { s := res.getLsbD 7
    z := res == 0#8
    y := res.getLsbD 5
    h := decide (a.toNat % 16 < b.toNat % 16 + c.toNat)
    x := res.getLsbD 3
    pv := a.getLsbD 7 != b.getLsbD 7 && res.getLsbD 7 != a.getLsbD 7
    n := true
    c := decide (a.toNat < b.toNat + c.toNat) }

/-- The flags of Logic (R220). -/
def logicFlags (res : Byte) (h : Bool) : Flags where
  s := res.getLsbD 7
  z := res == 0#8
  y := res.getLsbD 5
  h := h
  x := res.getLsbD 3
  pv := parity res
  n := false
  c := false

/-- The flags of CP (R229): those of a subtraction, with Y and X from the operand. -/
def cpFlags (a v : Byte) : Flags :=
  { sub8Flags a v false with y := v.getLsbD 5, x := v.getLsbD 3 }

/-- The flags of INC on a byte `v` (R230); C is kept. -/
def inc8Flags (old : Flags) (v : Byte) : Flags :=
  { old.szxy (v + 1#8) with h := v.toNat % 16 == 15, pv := v == 0x7F#8, n := false }

/-- The flags of DEC on a byte `v` (R231); C is kept. -/
def dec8Flags (old : Flags) (v : Byte) : Flags :=
  { old.szxy (v - 1#8) with h := v.toNat % 16 == 0, pv := v == 0x80#8, n := true }

/-- The correction DAA applies (R250). -/
def daaCorr (a : Byte) (fl : Flags) : Byte :=
  (if fl.h || decide (a.toNat % 16 > 9) then 0x06#8 else 0x00#8) |||
    (if fl.c || decide (a.toNat > 0x99) then 0x60#8 else 0x00#8)

/-- The result of DAA (R250). -/
def daaResult (a : Byte) (fl : Flags) : Byte :=
  if fl.n then a - daaCorr a fl else a + daaCorr a fl

/-- The flags of DAA (R250); N is kept. -/
def daaFlags (a : Byte) (fl : Flags) : Flags :=
  { fl.szxy (daaResult a fl) with
    h := if fl.n then fl.h && decide (a.toNat % 16 < 6) else decide (a.toNat % 16 > 9)
    pv := parity (daaResult a fl)
    c := fl.c || decide (a.toNat > 0x99) }

/-- The flags of CPL with the new A (R251). -/
def cplFlags (old : Flags) (a : Byte) : Flags :=
  { old with h := true, n := true, y := a.getLsbD 5, x := a.getLsbD 3 }

/-- The flags of CCF (R253); Y and X are drawn. -/
def ccfFlags (old : Flags) : Flags := { old with h := old.c, c := !old.c, n := false }

/-- The flags of SCF (R254); Y and X are drawn. -/
def scfFlags (old : Flags) : Flags := { old with c := true, h := false, n := false }

/-- The flags of `LD A,I` and `LD A,R` with the new A (R155); C is kept. -/
def ldAirFlags (old : Flags) (a : Byte) (iff2 : Bool) : Flags :=
  { old.szxy a with h := false, pv := iff2, n := false }

/-- The result of a 16-bit addition with carry (R270, R271). -/
def add16 (a b : Word) (c : Bool) : Word := BitVec.ofNat 16 (a.toNat + b.toNat + c.toNat)

/-- The flags of `ADD HL,ss` and `ADD XY,pp` (R270); S, Z and PV are kept. -/
def add16Flags (old : Flags) (a b : Word) : Flags :=
  let res := add16 a b false
  { old with
    h := decide (a.toNat % 0x1000 + b.toNat % 0x1000 > 0xFFF)
    n := false
    c := decide (a.toNat + b.toNat > 0xFFFF)
    y := res.getLsbD 13
    x := res.getLsbD 11 }

/-- The flags of `ADC HL,ss` (R271). -/
def adc16Flags (a b : Word) (c : Bool) : Flags :=
  let res := add16 a b c
  { s := res.getLsbD 15
    z := res == 0#16
    y := res.getLsbD 13
    h := decide (a.toNat % 0x1000 + b.toNat % 0x1000 + c.toNat > 0xFFF)
    x := res.getLsbD 11
    pv := a.getLsbD 15 == b.getLsbD 15 && res.getLsbD 15 != a.getLsbD 15
    n := false
    c := decide (a.toNat + b.toNat + c.toNat > 0xFFFF) }

/-- The result of a 16-bit subtraction with borrow (R272). -/
def sub16 (a b : Word) (c : Bool) : Word := a - b - BitVec.ofNat 16 c.toNat

/-- The flags of `SBC HL,ss` (R272). -/
def sbc16Flags (a b : Word) (c : Bool) : Flags :=
  let res := sub16 a b c
  { s := res.getLsbD 15
    z := res == 0#16
    y := res.getLsbD 13
    h := decide (a.toNat % 0x1000 < b.toNat % 0x1000 + c.toNat)
    x := res.getLsbD 11
    pv := a.getLsbD 15 != b.getLsbD 15 && res.getLsbD 15 != a.getLsbD 15
    n := true
    c := decide (a.toNat < b.toNat + c.toNat) }

/-- The flags of RLCA, RLA, RRCA and RRA with the new A and the bit rotated out (R285); S, Z, PV are kept. -/
def rotAFlags (old : Flags) (a : Byte) (co : Bool) : Flags :=
  { old with c := co, h := false, n := false, y := a.getLsbD 5, x := a.getLsbD 3 }

/-- The flags of the CB rotates and shifts (R289). -/
def rotFlags (res : Byte) (co : Bool) : Flags := { logicFlags res false with c := co }

/-- The flags of RLD and RRD with the new A (R299), and of `IN r,(C)` with the byte read (R362); C is kept. -/
def parityFlags (old : Flags) (v : Byte) : Flags :=
  { old.szxy v with h := false, pv := parity v, n := false }

/-- The flags of BIT but Y and X (R310): the tested value and the bit number; C is kept. `yx` is the byte whose
bits 5 and 3 give Y and X. -/
def bitFlags (old : Flags) (v : Byte) (b : BitVec 3) (yx : Byte) : Flags :=
  { old with
    z := !v.getLsbD b.toNat
    pv := !v.getLsbD b.toNat
    s := b == 7#3 && v.getLsbD 7
    h := true
    n := false
    y := yx.getLsbD 5
    x := yx.getLsbD 3 }

/-- The flags of LDI and LDD (R200): the byte copied, A and the new BC; S, Z and C are kept. -/
def blockLdFlags (old : Flags) (v a : Byte) (bc : Word) : Flags :=
  { old with
    h := false
    n := false
    pv := bc != 0#16
    x := (v + a).getLsbD 3
    y := (v + a).getLsbD 1 }

/-- The half-borrow of CPI and CPD (R204). -/
def blockCpHalf (a v : Byte) : Bool := decide (a.toNat % 16 < v.toNat % 16)

/-- The flags of CPI and CPD (R204): A, the byte and the new BC; C is kept. -/
def blockCpFlags (old : Flags) (a v : Byte) (bc : Word) : Flags :=
  let res := a - v
  let t := res - BitVec.ofNat 8 (blockCpHalf a v).toNat
  { old with
    s := res.getLsbD 7
    z := res == 0#8
    h := blockCpHalf a v
    pv := bc != 0#16
    n := true
    x := t.getLsbD 3
    y := t.getLsbD 1 }

/-- `IoBlockFlags(v, k)` with the new B (R364). -/
def blockIoFlags (b v : Byte) (k : Nat) : Flags where
  s := b.getLsbD 7
  z := b == 0#8
  y := b.getLsbD 5
  h := decide (k > 255)
  x := b.getLsbD 3
  pv := parity (BitVec.ofNat 8 (k % 8) ^^^ b)
  n := v.getLsbD 7
  c := decide (k > 255)

/-- `cond(c)` (R330). -/
def Flags.holds (fl : Flags) : Cond → Bool
  | .nz => !fl.z
  | .z => fl.z
  | .nc => !fl.c
  | .c => fl.c
  | .po => !fl.pv
  | .pe => fl.pv
  | .p => !fl.s
  | .m => fl.s

/-- The condition of JR cc (R334) as one of the eight (R106). -/
def condOfRel : RelCond → Cond
  | .nz => .nz
  | .z => .z
  | .nc => .nc
  | .c => .c

end Sys2Proof.Machine
end

