-- ==== Sys2Proof/Machine/Memory.lean ====
section
/-! DEFINITION. The byte array of spec/20_memory.md R72, R76, R77 as a list of (address, byte) pairs in one
canonical form. -/

namespace Sys2Proof.Machine

/-- The byte at an address; an unlisted address holds 0x00 (R50, R76). -/
def memGet : Memory → Nat → Byte
  | [], _ => 0#8
  | (k, v) :: m, a => if k = a then v else memGet m a

/-- Puts a byte that is not 0x00 at its place. -/
def memInsert : Memory → Nat → Byte → Memory
  | [], a, v => [(a, v)]
  | (k, w) :: m, a, v =>
    if k < a then (k, w) :: memInsert m a v
    else if k = a then (a, v) :: m
    else (a, v) :: (k, w) :: m

/-- Takes an address out of the list. -/
def memErase (m : Memory) (a : Nat) : Memory := m.filter (fun c => c.1 != a)

/-- Stores a byte: storing 0x00 takes the address out of the list. -/
def memSet (m : Memory) (a : Nat) (v : Byte) : Memory :=
  if v = 0#8 then memErase m a else memInsert m a v

/-- Stores the bytes of a list at `a`, `a + 1`, and so on, modulo the size of memory (R77). -/
def memSetList (m : Memory) (a : Nat) : List Byte → Memory
  | [] => m
  | v :: vs => memSetList (memSet m (a % Config.maxAddress) v) (a + 1) vs

/-- The canonical form: addresses strictly rising and below MaxAddress, no entry equal to what an unlisted
address reads as. -/
abbrev Memory.wf (m : Memory) : Prop :=
  m.Pairwise (fun x y => x.1 < y.1) ∧ ∀ c ∈ m, c.2 ≠ 0#8 ∧ c.1 < Config.maxAddress

end Sys2Proof.Machine
end

