-- ==== Sys2Proof/Machine/Operands.lean ====
section
/-! DEFINITION. The operand forms: registers, pairs and index halves by code (spec/30_encoding.md R104, R105),
memory operands and effective addresses (R107, R108; spec/20_memory.md R72 to R75). -/

namespace Sys2Proof.Machine

/-! ### 8-bit registers -/

/-- The register of a set that a code names (R104). -/
def RegSet.get (rs : RegSet) : Reg8 → Byte
  | .b => rs.b | .c => rs.c | .d => rs.d | .e => rs.e | .h => rs.h | .l => rs.l | .a => rs.a

/-- Writes one register of a set. -/
def RegSet.set (rs : RegSet) (r : Reg8) (v : Byte) : RegSet :=
  match r with
  | .b => { rs with b := v } | .c => { rs with c := v } | .d => { rs with d := v } | .e => { rs with e := v }
  | .h => { rs with h := v } | .l => { rs with l := v } | .a => { rs with a := v }

/-- `reg8[c]` (R9, R104). -/
def State.reg (r : Reg8) (s : State) : Byte := s.main.get r

/-- `reg8[c] <- v`. -/
def State.setReg (r : Reg8) (v : Byte) (s : State) : State := { s with main := s.main.set r v }

/-! ### Index registers and their halves (R36) -/

/-- The index register. -/
def State.xy (x : Index) (s : State) : Word :=
  match x with | .ix => s.ix | .iy => s.iy

/-- Writes the index register. -/
def State.setXy (x : Index) (v : Word) (s : State) : State :=
  match x with | .ix => { s with ix := v } | .iy => { s with iy := v }

/-- XYh or XYl. -/
def State.half (x : Index) (hf : Half) (s : State) : Byte :=
  match hf with | .hi => hiByte (s.xy x) | .lo => loByte (s.xy x)

/-- Writes XYh or XYl; the other half is kept (R160). -/
def State.setHalf (x : Index) (hf : Half) (v : Byte) (s : State) : State :=
  match hf with
  | .hi => s.setXy x (joinBytes v (loByte (s.xy x)))
  | .lo => s.setXy x (joinBytes (hiByte (s.xy x)) v)

/-- `reg8'[c]`: the half-register reading of R104. -/
def State.hreg (x : Index) (r : HReg) (s : State) : Byte :=
  match r with
  | .b => s.reg .b | .c => s.reg .c | .d => s.reg .d | .e => s.reg .e | .a => s.reg .a
  | .xh => s.half x .hi | .xl => s.half x .lo

/-- `reg8'[c] <- v` (R159). -/
def State.setHreg (x : Index) (r : HReg) (v : Byte) (s : State) : State :=
  match r with
  | .b => s.setReg .b v | .c => s.setReg .c v | .d => s.setReg .d v | .e => s.setReg .e v
  | .a => s.setReg .a v
  | .xh => s.setHalf x .hi v | .xl => s.setHalf x .lo v

/-! ### Register pairs (R31, R105) -/

/-- The pair BC. -/
def State.bc (s : State) : Word := joinBytes s.main.b s.main.c

/-- The pair DE. -/
def State.de (s : State) : Word := joinBytes s.main.d s.main.e

/-- The pair HL. -/
def State.hl (s : State) : Word := joinBytes s.main.h s.main.l

/-- The pair AF. -/
def State.af (s : State) : Word := joinBytes s.main.a s.main.f

/-- Writes both halves of BC. -/
def State.setBc (v : Word) (s : State) : State :=
  { s with main := { s.main with b := hiByte v, c := loByte v } }

/-- Writes both halves of DE. -/
def State.setDe (v : Word) (s : State) : State :=
  { s with main := { s.main with d := hiByte v, e := loByte v } }

/-- Writes both halves of HL. -/
def State.setHl (v : Word) (s : State) : State :=
  { s with main := { s.main with h := hiByte v, l := loByte v } }

/-- Writes both halves of AF. -/
def State.setAf (v : Word) (s : State) : State :=
  { s with main := { s.main with a := hiByte v, f := loByte v } }

/-- Writes SP. -/
def State.setSp (v : Word) (s : State) : State := { s with sp := v }

/-- `reg16[p]`, column dd/ss. -/
def State.pair (p : Pair) (s : State) : Word :=
  match p with | .bc => s.bc | .de => s.de | .hl => s.hl | .sp => s.sp

/-- `reg16[p] <- v`, column dd/ss. -/
def State.setPair (p : Pair) (v : Word) (s : State) : State :=
  match p with | .bc => s.setBc v | .de => s.setDe v | .hl => s.setHl v | .sp => s.setSp v

/-- `reg16[q]`, column qq. -/
def State.stackPair (q : StackPair) (s : State) : Word :=
  match q with | .bc => s.bc | .de => s.de | .hl => s.hl | .af => s.af

/-- `reg16[q] <- v`, column qq. -/
def State.setStackPair (q : StackPair) (v : Word) (s : State) : State :=
  match q with | .bc => s.setBc v | .de => s.setDe v | .hl => s.setHl v | .af => s.setAf v

/-- `reg16[p]`, column pp: code 10 names the index register. -/
def State.indexPair (x : Index) (p : IndexPair) (s : State) : Word :=
  match p with | .bc => s.bc | .de => s.de | .xy => s.xy x | .sp => s.sp

/-! ### Memory operands -/

/-- `MemRead(addr, 1)` (R72). -/
def State.readByte (a : Word) (s : State) : Byte := memGet s.mem a.toNat

/-- `MemRead(addr, 2)` (R74): little-endian, the second address wraps. -/
def State.readWord (a : Word) (s : State) : Word := joinBytes (s.readByte (a + 1#16)) (s.readByte a)

/-- The address lies in the pixel or the attribute window (R73). -/
def inVideo (a : Nat) : Bool :=
  (decide (Config.pixelBase ≤ a) && decide (a < Config.attrBase)) ||
    (decide (Config.attrBase ≤ a) && decide (a < Config.attrEnd))

/-- `MemWrite(addr, 1, v)` (R73): dropped below RomSize, nothing for the stored value, and a changing write in
a video window sets VideoMemoryChanged. -/
def State.writeByte (a : Word) (v : Byte) (s : State) : State :=
  if a.toNat < s.romSize then s
  else if s.readByte a = v then s
  else { s with mem := memSet s.mem a.toNat v, videoChanged := s.videoChanged || inVideo a.toNat }

/-- `MemWrite(addr, 2, v)` (R75): the low byte, then the high byte at the next address, which wraps. -/
def State.writeWord (a : Word) (v : Word) (s : State) : State :=
  (s.writeByte a (loByte v)).writeByte (a + 1#16) (hiByte v)

/-- The effective address of an `(XY+d)` operand (R108). -/
def State.ea (x : Index) (d : Byte) (s : State) : Word := s.xy x + sext16 d

end Sys2Proof.Machine
end

