-- ==== Sys2Proof/Machine/Ops.lean ====
section
/-! DEFINITION. The shared operations of the instruction rules: beginning an instruction (spec/30_encoding.md
R120 to R123), the stack (spec/41_load16_exchange.md R189), control transfer (R109, R331 to R344), the I/O boundary
(spec/20_memory.md R80, R81), taking an interrupt and returning from one (spec/60_exceptions.md R402 to R410). -/

namespace Sys2Proof.Machine

/-! ### The step around an instruction -/

/-- `(R & 0x80) | ((R + k) & 0x7F)`: R after `k` opcode fetches (R40, R122). -/
def bumpR (k : Nat) (r : Byte) : Byte := (r &&& 0x80#8) ||| ((r + BitVec.ofNat 8 k) &&& 0x7F#8)

/-- What every instruction step does beside its rule (R120 `Execute`): R counts the opcode fetches, PC becomes
`PCn`, T gains the cost and EI_SHADOW is cleared. The step starts at `ia`, after any absorbed prefixes. -/
def State.begin (fmt : Format) (cost : Nat) (s : State) : State :=
  { s with
    pc := s.pc + BitVec.ofNat 16 fmt.length
    regR := bumpR fmt.m1 s.regR
    t := s.t + cost
    eiShadow := false }

/-- `k` absorbed prefixes (R112, R122, R123): each is one wasted opcode fetch of 4 T-states. -/
def State.absorb (k : Nat) (s : State) : State :=
  { s with pc := s.pc + BitVec.ofNat 16 k, regR := bumpR k s.regR, t := s.t + 4 * k }

/-- Writes PC. -/
def State.setPc (v : Word) (s : State) : State := { s with pc := v }

/-- The target of a relative jump from the current PC, which is `PCn` (R109). -/
def State.relTarget (e : Byte) (s : State) : Word := s.pc + sext16 e

/-! ### The stack (R189) -/

/-- `Push(v)`. -/
def State.push (v : Word) (s : State) : State :=
  (s.setSp (s.sp - 2#16)).writeWord (s.sp - 2#16) v

/-- The value `Pop()` returns. -/
def State.top (s : State) : Word := s.readWord s.sp

/-- The state `Pop()` leaves. -/
def State.drop (s : State) : State := s.setSp (s.sp + 2#16)

/-- `Push(PC); PC <- target`: CALL and RST (R338, R344). -/
def State.call (target : Word) (s : State) : State := (s.push s.pc).setPc target

/-- `PC <- Pop()` (R340). -/
def State.ret (s : State) : State := s.drop.setPc s.top

/-! ### The I/O boundary -/

/-- The byte `IoRead(port)` returns (R80): the host's next answer, or a free value. -/
def State.ioAnswer (port : Word) (s : State) : Byte :=
  match s.inputs with
  | v :: _ => v
  | [] => Config.ioRead s.draws port

/-- The state after an `IoRead`: its answer is used up. -/
def State.ioTaken (s : State) : State :=
  match s.inputs with
  | _ :: vs => { s with inputs := vs }
  | [] => { s with draws := s.draws + 1 }

/-- `IoWrite(port, v)` (R81). -/
def State.ioWrite (port : Word) (v : Byte) (s : State) : State :=
  { s with outHistory := s.outHistory ++ [(port, v)] }

/-! ### Interrupts -/

/-- The effects of every interrupt acceptance (R402), with the T-states it takes. -/
def State.accept (cost : Nat) (s : State) : State :=
  { ({ s with halted := false, regR := bumpR 1 s.regR }).push s.pc with
    eiShadow := false
    t := s.t + cost }

/-- `AcceptNMI` (R407): IFF2 is kept. -/
def State.acceptNmi (s : State) : State :=
  { s.accept 11 with iff1 := false, pc := 0x0066#16 }

/-- The common part of maskable acceptance (R403) with the entry address: both flip-flops are cleared. -/
def State.enterInt (cost : Nat) (target : State → Word) (s : State) : State :=
  { s.accept cost with iff1 := false, iff2 := false, pc := target (s.accept cost) }

/-- The bus byte is an RST opcode (R404). -/
def isRst (bus : Byte) : Bool := bus &&& 0xC7#8 == 0xC7#8

/-- `AcceptINT(bus)` (R403): mode 0 runs an RST byte and refuses any other (R404), mode 1 enters 0x0038 (R404),
mode 2 reads the vector at `I:bus` (R405), after the push. -/
def acceptInt (bus : Byte) (s : State) : Host.Outcome State Fault Refusal :=
  match s.im with
  | .im0 =>
    if isRst bus then .next (s.enterInt 13 (fun _ => joinBytes 0x00#8 (bus &&& 0x38#8)))
    else .refused (.im0BusNotRst bus)
  | .im1 => .next (s.enterInt 13 (fun _ => 0x0038#16))
  | .im2 => .next (s.enterInt 19 (fun s' => s'.readWord (joinBytes s'.regI bus)))

/-- `PC <- Pop(); IFF1 <- IFF2`: the return from an interrupt, RETI and RETN (R342, R343, R410). -/
def State.retInt (s : State) : State := { s.ret with iff1 := s.iff2 }

/-- `IdleCycle` (R406). -/
def State.idle (s : State) : State :=
  { s with regR := bumpR 1 s.regR, t := s.t + 4, eiShadow := false }

end Sys2Proof.Machine
end

