-- ==== Sys2Proof/Machine/Cycle.lean ====
section
/-! DEFINITION. One step of the CPU state machine (spec/30_encoding.md R120) over a dispatch function, and the
states the run marks give (spec/10_state.md R48). Machine/Step.lean puts `exec` in. -/

namespace Sys2Proof.Machine

/-- A dispatch function: the meaning of every instruction. -/
abbrev Dispatch := Instr → State → Result

/-- The byte at an address, for the decoder. -/
def State.fetch (s : State) (a : Word) : Byte := s.readByte a

/-- `Execute` (R120): decode at PC, absorb the prefixes, run the instruction. 65536 absorbing prefixes fault
(R118). -/
def execute (run : Dispatch) (s : State) : Result :=
  match decodeAt s.fetch s.pc with
  | none => .fault (.prefixChainUnbounded s.pc)
  | some (k, i) => run i (s.absorb k)

/-- A step without an accepted interrupt (R120): a halted idle cycle or an instruction. -/
def ordinary (run : Dispatch) (s : State) : Result :=
  if s.halted then .next s.idle else execute run s

/-- A maskable interrupt would be accepted (R403). -/
def State.intEnabled (s : State) : Bool := s.iff1 && !s.eiShadow

/-- A step with the event the host presents (R120, R403, R408). An INT that is not accepted has no effect and is
not remembered (R401). -/
def stepEvent (run : Dispatch) (ev : Event) (s : State) : Result :=
  match ev with
  | .nmi => .next s.acceptNmi
  | .int bus => if s.intEnabled then acceptInt bus s else ordinary run s
  | .none => ordinary run s

/-- The event of the coming step: the head of the schedule, none when it is spent (DESIGN CHOICE, log entry 4). -/
def State.event (s : State) : Event := s.events.headD .none

/-- The state with the event of the coming step taken off the schedule. -/
def State.eventTaken (s : State) : State := { s with events := s.events.tail }

/-- One step (R120): no step is possible while a mark is set (R48), so the mark's reason is answered again (DESIGN
CHOICE, log entry 8). -/
def cycle (run : Dispatch) (s : State) : Result :=
  match s.faultMark, s.refusedMark with
  | some r, _ => .fault r
  | none, some r => .refused r
  | none, none => stepEvent run s.event s.eventTaken

/-- No run mark is set (R48). -/
abbrev State.unmarked (s : State) : Prop := s.faultMark = none ∧ s.refusedMark = none

/-- The state a step leaves (R48, R400): a fault or a refusal keeps the state and sets its mark. -/
def State.after (s : State) : Result → State
  | .next t => t
  | .fault r => { s with faultMark := some r }
  | .refused r => { s with refusedMark := some r }

end Sys2Proof.Machine
end

