-- ==== Sys2Proof/Machine/Alu16.lean ====
section
/-! DEFINITION. The meanings of the 16-bit arithmetic group (spec/45_alu16.md). -/

namespace Sys2Proof.Machine

/-- `ADD HL,ss` (R270). -/
def execAddHlSs (ss : Pair) (s : State) : Result :=
  .next (((s.begin .b1 11).setHl (add16 s.hl (s.pair ss) false)).setFlags
    (add16Flags s.flags s.hl (s.pair ss)) .yxBits .noBits)

/-- `ADC HL,ss` (R271). -/
def execAdcHlSs (ss : Pair) (s : State) : Result :=
  .next (((s.begin .ed2 15).setHl (add16 s.hl (s.pair ss) s.flags.c)).setFlags
    (adc16Flags s.hl (s.pair ss) s.flags.c) .yxBits .noBits)

/-- `SBC HL,ss` (R272). -/
def execSbcHlSs (ss : Pair) (s : State) : Result :=
  .next (((s.begin .ed2 15).setHl (sub16 s.hl (s.pair ss) s.flags.c)).setFlags
    (sbc16Flags s.hl (s.pair ss) s.flags.c) .yxBits .noBits)

/-- `ADD XY,pp` (R273): HL is neither read nor written. -/
def execAddXyPp (xy : Index) (pp : IndexPair) (s : State) : Result :=
  .next (((s.begin .x2 15).setXy xy (add16 (s.xy xy) (s.indexPair xy pp) false)).setFlags
    (add16Flags s.flags (s.xy xy) (s.indexPair xy pp)) .yxBits .noBits)

/-- `INC ss` (R274). -/
def execIncSs (ss : Pair) (s : State) : Result :=
  .next ((s.begin .b1 6).setPair ss (s.pair ss + 1#16))

/-- `INC XY` (R275). -/
def execIncXy (xy : Index) (s : State) : Result :=
  .next ((s.begin .x2 10).setXy xy (s.xy xy + 1#16))

/-- `DEC ss` (R276). -/
def execDecSs (ss : Pair) (s : State) : Result :=
  .next ((s.begin .b1 6).setPair ss (s.pair ss - 1#16))

/-- `DEC XY` (R277). -/
def execDecXy (xy : Index) (s : State) : Result :=
  .next ((s.begin .x2 10).setXy xy (s.xy xy - 1#16))

end Sys2Proof.Machine
end

