-- ==== Sys2Proof/Machine/Alu8.lean ====
section
/-! DEFINITION. The meanings of the 8-bit arithmetic and logic group (spec/43_alu8.md). -/

namespace Sys2Proof.Machine

/-- `ADD A,s` (R222). -/
def State.aluAdd (v : Byte) (s : State) : State :=
  (s.setReg .a (add8 s.main.a v false)).setFlags (add8Flags s.main.a v false) .yxBits .noBits

/-- `ADC A,s` (R223). -/
def State.aluAdc (v : Byte) (s : State) : State :=
  (s.setReg .a (add8 s.main.a v s.flags.c)).setFlags (add8Flags s.main.a v s.flags.c) .yxBits .noBits

/-- `SUB s` (R224). -/
def State.aluSub (v : Byte) (s : State) : State :=
  (s.setReg .a (sub8 s.main.a v false)).setFlags (sub8Flags s.main.a v false) .yxBits .noBits

/-- `SBC A,s` (R225). -/
def State.aluSbc (v : Byte) (s : State) : State :=
  (s.setReg .a (sub8 s.main.a v s.flags.c)).setFlags (sub8Flags s.main.a v s.flags.c) .yxBits .noBits

/-- `AND s` (R226). -/
def State.aluAnd (v : Byte) (s : State) : State :=
  (s.setReg .a (s.main.a &&& v)).setFlags (logicFlags (s.main.a &&& v) true) .yxBits .noBits

/-- `XOR s` (R227). -/
def State.aluXor (v : Byte) (s : State) : State :=
  (s.setReg .a (s.main.a ^^^ v)).setFlags (logicFlags (s.main.a ^^^ v) false) .yxBits .noBits

/-- `OR s` (R228). -/
def State.aluOr (v : Byte) (s : State) : State :=
  (s.setReg .a (s.main.a ||| v)).setFlags (logicFlags (s.main.a ||| v) false) .yxBits .noBits

/-- `CP s` (R229): A is not written. -/
def State.aluCp (v : Byte) (s : State) : State :=
  s.setFlags (cpFlags s.main.a v) .yxBits .noBits

/-- The flags after `INC s` with the operand's old value (R230). -/
def State.incFlags (v : Byte) (s : State) : State := s.setFlags (inc8Flags s.flags v) .yxBits .noBits

/-- The flags after `DEC s` with the operand's old value (R231). -/
def State.decFlags (v : Byte) (s : State) : State := s.setFlags (dec8Flags s.flags v) .yxBits .noBits

/-- `ADD A,r` (R222). -/
def execAddR (r : Reg8) (s : State) : Result :=
  .next ((s.begin .b1 4).aluAdd (s.reg r))

/-- `ADD A,n` (R222). -/
def execAddN (n : Byte) (s : State) : Result :=
  .next ((s.begin .b2n 7).aluAdd n)

/-- `ADD A,(HL)` (R222). -/
def execAddHl (s : State) : Result :=
  .next ((s.begin .b1 7).aluAdd (s.readByte s.hl))

/-- `ADD A,(XY+d)` (R222). -/
def execAddXyd (xy : Index) (d : Byte) (s : State) : Result :=
  .next ((s.begin .x3d 19).aluAdd (s.readByte (s.ea xy d)))

/-- `ADD A,XYh/XYl` (R222, R221). -/
def execAddHalf (xy : Index) (hf : Half) (s : State) : Result :=
  .next ((s.begin .x2 8).aluAdd (s.half xy hf))

/-- `ADC A,r` (R223). -/
def execAdcR (r : Reg8) (s : State) : Result :=
  .next ((s.begin .b1 4).aluAdc (s.reg r))

/-- `ADC A,n` (R223). -/
def execAdcN (n : Byte) (s : State) : Result :=
  .next ((s.begin .b2n 7).aluAdc n)

/-- `ADC A,(HL)` (R223). -/
def execAdcHl (s : State) : Result :=
  .next ((s.begin .b1 7).aluAdc (s.readByte s.hl))

/-- `ADC A,(XY+d)` (R223). -/
def execAdcXyd (xy : Index) (d : Byte) (s : State) : Result :=
  .next ((s.begin .x3d 19).aluAdc (s.readByte (s.ea xy d)))

/-- `ADC A,XYh/XYl` (R223, R221). -/
def execAdcHalf (xy : Index) (hf : Half) (s : State) : Result :=
  .next ((s.begin .x2 8).aluAdc (s.half xy hf))

/-- `SUB r` (R224). -/
def execSubR (r : Reg8) (s : State) : Result :=
  .next ((s.begin .b1 4).aluSub (s.reg r))

/-- `SUB n` (R224). -/
def execSubN (n : Byte) (s : State) : Result :=
  .next ((s.begin .b2n 7).aluSub n)

/-- `SUB (HL)` (R224). -/
def execSubHl (s : State) : Result :=
  .next ((s.begin .b1 7).aluSub (s.readByte s.hl))

/-- `SUB (XY+d)` (R224). -/
def execSubXyd (xy : Index) (d : Byte) (s : State) : Result :=
  .next ((s.begin .x3d 19).aluSub (s.readByte (s.ea xy d)))

/-- `SUB XYh/XYl` (R224, R221). -/
def execSubHalf (xy : Index) (hf : Half) (s : State) : Result :=
  .next ((s.begin .x2 8).aluSub (s.half xy hf))

/-- `SBC A,r` (R225). -/
def execSbcR (r : Reg8) (s : State) : Result :=
  .next ((s.begin .b1 4).aluSbc (s.reg r))

/-- `SBC A,n` (R225). -/
def execSbcN (n : Byte) (s : State) : Result :=
  .next ((s.begin .b2n 7).aluSbc n)

/-- `SBC A,(HL)` (R225). -/
def execSbcHl (s : State) : Result :=
  .next ((s.begin .b1 7).aluSbc (s.readByte s.hl))

/-- `SBC A,(XY+d)` (R225). -/
def execSbcXyd (xy : Index) (d : Byte) (s : State) : Result :=
  .next ((s.begin .x3d 19).aluSbc (s.readByte (s.ea xy d)))

/-- `SBC A,XYh/XYl` (R225, R221). -/
def execSbcHalf (xy : Index) (hf : Half) (s : State) : Result :=
  .next ((s.begin .x2 8).aluSbc (s.half xy hf))

/-- `AND r` (R226). -/
def execAndR (r : Reg8) (s : State) : Result :=
  .next ((s.begin .b1 4).aluAnd (s.reg r))

/-- `AND n` (R226). -/
def execAndN (n : Byte) (s : State) : Result :=
  .next ((s.begin .b2n 7).aluAnd n)

/-- `AND (HL)` (R226). -/
def execAndHl (s : State) : Result :=
  .next ((s.begin .b1 7).aluAnd (s.readByte s.hl))

/-- `AND (XY+d)` (R226). -/
def execAndXyd (xy : Index) (d : Byte) (s : State) : Result :=
  .next ((s.begin .x3d 19).aluAnd (s.readByte (s.ea xy d)))

/-- `AND XYh/XYl` (R226, R221). -/
def execAndHalf (xy : Index) (hf : Half) (s : State) : Result :=
  .next ((s.begin .x2 8).aluAnd (s.half xy hf))

/-- `XOR r` (R227). -/
def execXorR (r : Reg8) (s : State) : Result :=
  .next ((s.begin .b1 4).aluXor (s.reg r))

/-- `XOR n` (R227). -/
def execXorN (n : Byte) (s : State) : Result :=
  .next ((s.begin .b2n 7).aluXor n)

/-- `XOR (HL)` (R227). -/
def execXorHl (s : State) : Result :=
  .next ((s.begin .b1 7).aluXor (s.readByte s.hl))

/-- `XOR (XY+d)` (R227). -/
def execXorXyd (xy : Index) (d : Byte) (s : State) : Result :=
  .next ((s.begin .x3d 19).aluXor (s.readByte (s.ea xy d)))

/-- `XOR XYh/XYl` (R227, R221). -/
def execXorHalf (xy : Index) (hf : Half) (s : State) : Result :=
  .next ((s.begin .x2 8).aluXor (s.half xy hf))

/-- `OR r` (R228). -/
def execOrR (r : Reg8) (s : State) : Result :=
  .next ((s.begin .b1 4).aluOr (s.reg r))

/-- `OR n` (R228). -/
def execOrN (n : Byte) (s : State) : Result :=
  .next ((s.begin .b2n 7).aluOr n)

/-- `OR (HL)` (R228). -/
def execOrHl (s : State) : Result :=
  .next ((s.begin .b1 7).aluOr (s.readByte s.hl))

/-- `OR (XY+d)` (R228). -/
def execOrXyd (xy : Index) (d : Byte) (s : State) : Result :=
  .next ((s.begin .x3d 19).aluOr (s.readByte (s.ea xy d)))

/-- `OR XYh/XYl` (R228, R221). -/
def execOrHalf (xy : Index) (hf : Half) (s : State) : Result :=
  .next ((s.begin .x2 8).aluOr (s.half xy hf))

/-- `CP r` (R229). -/
def execCpR (r : Reg8) (s : State) : Result :=
  .next ((s.begin .b1 4).aluCp (s.reg r))

/-- `CP n` (R229). -/
def execCpN (n : Byte) (s : State) : Result :=
  .next ((s.begin .b2n 7).aluCp n)

/-- `CP (HL)` (R229). -/
def execCpHl (s : State) : Result :=
  .next ((s.begin .b1 7).aluCp (s.readByte s.hl))

/-- `CP (XY+d)` (R229). -/
def execCpXyd (xy : Index) (d : Byte) (s : State) : Result :=
  .next ((s.begin .x3d 19).aluCp (s.readByte (s.ea xy d)))

/-- `CP XYh/XYl` (R229, R221). -/
def execCpHalf (xy : Index) (hf : Half) (s : State) : Result :=
  .next ((s.begin .x2 8).aluCp (s.half xy hf))

/-- `INC r` (R230). -/
def execIncR (r : Reg8) (s : State) : Result :=
  .next (((s.begin .b1 4).setReg r (s.reg r + 1#8)).incFlags (s.reg r))

/-- `INC (HL)` (R230). -/
def execIncHl (s : State) : Result :=
  .next (((s.begin .b1 11).writeByte s.hl (s.readByte s.hl + 1#8)).incFlags (s.readByte s.hl))

/-- `INC (XY+d)` (R230). -/
def execIncXyd (xy : Index) (d : Byte) (s : State) : Result :=
  .next (((s.begin .x3d 23).writeByte (s.ea xy d) (s.readByte (s.ea xy d) + 1#8)).incFlags
    (s.readByte (s.ea xy d)))

/-- `INC XYh/XYl` (R230). -/
def execIncHalf (xy : Index) (hf : Half) (s : State) : Result :=
  .next (((s.begin .x2 8).setHalf xy hf (s.half xy hf + 1#8)).incFlags (s.half xy hf))

/-- `DEC r` (R231). -/
def execDecR (r : Reg8) (s : State) : Result :=
  .next (((s.begin .b1 4).setReg r (s.reg r - 1#8)).decFlags (s.reg r))

/-- `DEC (HL)` (R231). -/
def execDecHl (s : State) : Result :=
  .next (((s.begin .b1 11).writeByte s.hl (s.readByte s.hl - 1#8)).decFlags (s.readByte s.hl))

/-- `DEC (XY+d)` (R231). -/
def execDecXyd (xy : Index) (d : Byte) (s : State) : Result :=
  .next (((s.begin .x3d 23).writeByte (s.ea xy d) (s.readByte (s.ea xy d) - 1#8)).decFlags
    (s.readByte (s.ea xy d)))

/-- `DEC XYh/XYl` (R231). -/
def execDecHalf (xy : Index) (hf : Half) (s : State) : Result :=
  .next (((s.begin .x2 8).setHalf xy hf (s.half xy hf - 1#8)).decFlags (s.half xy hf))

end Sys2Proof.Machine
end

