-- ==== Sys2Proof/Machine/Bit.lean ====
section
/-! DEFINITION. The meanings of the bit set, reset and test group (spec/47_bit.md). -/

namespace Sys2Proof.Machine

/-- `v & ~(1 << b)` (R313). -/
def clearBit (b : BitVec 3) (v : Byte) : Byte := v &&& ~~~(1#8 <<< b.toNat)

/-- `v | (1 << b)` (R315). -/
def raiseBit (b : BitVec 3) (v : Byte) : Byte := v ||| (1#8 <<< b.toNat)

/-- The test of bit `b` of the byte at an effective address (R312): Y and X come from the address's high byte. -/
def State.testIndexed (b : BitVec 3) (ea : Word) (s : State) : State :=
  s.setFlags (bitFlags s.flags (s.readByte ea) b (hiByte ea)) .yxBits .noBits

/-- `BIT b,r` (R310). -/
def execBitR (b : BitVec 3) (r : Reg8) (s : State) : Result :=
  .next ((s.begin .cb2 8).setFlags (bitFlags s.flags (s.reg r) b (s.reg r)) .yxBits .noBits)

/-- `BIT b,(HL)` (R311): Y and X are drawn. -/
def execBitHl (b : BitVec 3) (s : State) : Result :=
  .next ((s.begin .cb2 12).setFlags (bitFlags s.flags (s.readByte s.hl) b 0#8) .noBits .yxBits)

/-- `BIT b,(XY+d)` (R312). -/
def execBitXyd (b : BitVec 3) (xy : Index) (d : Byte) (s : State) : Result :=
  .next ((s.begin .x4cb 20).testIndexed b (s.ea xy d))

/-- The duplicates of `BIT b,(XY+d)` (R312, D9): no register is written. -/
def execBitXydDup (b : BitVec 3) (xy : Index) (d : Byte) (_r : Reg8) (s : State) : Result :=
  .next ((s.begin .x4cb 20).testIndexed b (s.ea xy d))

/-- A byte operation on a register. -/
def State.mapReg (f : Byte → Byte) (r : Reg8) (s : State) : State := s.setReg r (f (s.reg r))

/-- A byte operation on the byte at an address: one read and one write (R84). -/
def State.mapMem (f : Byte → Byte) (a : Word) (s : State) : State := s.writeByte a (f (s.readByte a))

/-- A byte operation on the byte at an address, copied into a register (R314, R316). -/
def State.mapMemCopy (f : Byte → Byte) (a : Word) (r : Reg8) (s : State) : State :=
  (s.writeByte a (f (s.readByte a))).setReg r (f (s.readByte a))

/-- `RES b,r` (R313). -/
def execResR (b : BitVec 3) (r : Reg8) (s : State) : Result :=
  .next ((s.begin .cb2 8).mapReg (clearBit b) r)

/-- `RES b,(HL)` (R313). -/
def execResHl (b : BitVec 3) (s : State) : Result :=
  .next ((s.begin .cb2 15).mapMem (clearBit b) s.hl)

/-- `RES b,(XY+d)` (R313). -/
def execResXyd (b : BitVec 3) (xy : Index) (d : Byte) (s : State) : Result :=
  .next ((s.begin .x4cb 23).mapMem (clearBit b) (s.ea xy d))

/-- `RES b,(XY+d),r` (R314). -/
def execResXydR (b : BitVec 3) (xy : Index) (d : Byte) (r : Reg8) (s : State) : Result :=
  .next ((s.begin .x4cb 23).mapMemCopy (clearBit b) (s.ea xy d) r)

/-- `SET b,r` (R315). -/
def execSetR (b : BitVec 3) (r : Reg8) (s : State) : Result :=
  .next ((s.begin .cb2 8).mapReg (raiseBit b) r)

/-- `SET b,(HL)` (R315). -/
def execSetHl (b : BitVec 3) (s : State) : Result :=
  .next ((s.begin .cb2 15).mapMem (raiseBit b) s.hl)

/-- `SET b,(XY+d)` (R315). -/
def execSetXyd (b : BitVec 3) (xy : Index) (d : Byte) (s : State) : Result :=
  .next ((s.begin .x4cb 23).mapMem (raiseBit b) (s.ea xy d))

/-- `SET b,(XY+d),r` (R316). -/
def execSetXydR (b : BitVec 3) (xy : Index) (d : Byte) (r : Reg8) (s : State) : Result :=
  .next ((s.begin .x4cb 23).mapMemCopy (raiseBit b) (s.ea xy d) r)

end Sys2Proof.Machine
end

