-- ==== Sys2Proof/Machine/Block.lean ====
section
/-! DEFINITION. The meanings of the block transfer and search group (spec/42_block.md). -/

namespace Sys2Proof.Machine

/-- The repeat of a block instruction (R199): a continuing iteration sets PC to `ia`. -/
def State.repeatAt (ia : Word) (again : Bool) (s : State) : State :=
  if again then s.setPc ia else s

/-- The cost of an iteration of a repeating block instruction (R199, R460). -/
def repeatCost (again : Bool) : Nat := if again then 21 else 16

/-- The bits a continuing block transfer or search draws (R199). -/
def repeatBits (again : Bool) : Flags := if again then .yxBits else .noBits

/-- The operation of LDI and LDD (R200, R202): copy (HL) to (DE), step HL and DE by `delta`, count BC down. -/
def State.blockLd (delta : Word) (drawn : Flags) (s : State) : State :=
  let v := s.readByte s.hl
  let bc := s.bc - 1#16
  ((((s.writeByte s.de v).setHl (s.hl + delta)).setDe (s.de + delta)).setBc bc).setFlags
    (blockLdFlags s.flags v s.main.a bc) .yxBits drawn

/-- LDIR and LDDR go on: BC has not reached 0 (R201). -/
def State.ldAgain (s : State) : Bool := s.bc - 1#16 != 0#16

/-- The operation of CPI and CPD (R204, R206): compare A with (HL), step HL by `delta`, count BC down. -/
def State.blockCp (delta : Word) (drawn : Flags) (s : State) : State :=
  let v := s.readByte s.hl
  let bc := s.bc - 1#16
  ((s.setHl (s.hl + delta)).setBc bc).setFlags (blockCpFlags s.flags s.main.a v bc) .yxBits drawn

/-- CPIR and CPDR go on: BC has not reached 0 and A was not found (R205). -/
def State.cpAgain (s : State) : Bool :=
  s.bc - 1#16 != 0#16 && s.main.a - s.readByte s.hl != 0#8

/-- `LDI` (R200). -/
def execLdi (s : State) : Result :=
  .next ((s.begin .ed2 16).blockLd 1#16 .noBits)

/-- `LDIR` (R201): one iteration. -/
def execLdir (s : State) : Result :=
  .next (((s.begin .ed2 (repeatCost s.ldAgain)).blockLd 1#16 (repeatBits s.ldAgain)).repeatAt s.pc s.ldAgain)

/-- `LDD` (R202). -/
def execLdd (s : State) : Result :=
  .next ((s.begin .ed2 16).blockLd 0xFFFF#16 .noBits)

/-- `LDDR` (R203): one iteration. -/
def execLddr (s : State) : Result :=
  .next (((s.begin .ed2 (repeatCost s.ldAgain)).blockLd 0xFFFF#16 (repeatBits s.ldAgain)).repeatAt s.pc s.ldAgain)

/-- `CPI` (R204). -/
def execCpi (s : State) : Result :=
  .next ((s.begin .ed2 16).blockCp 1#16 .noBits)

/-- `CPIR` (R205): one iteration. -/
def execCpir (s : State) : Result :=
  .next (((s.begin .ed2 (repeatCost s.cpAgain)).blockCp 1#16 (repeatBits s.cpAgain)).repeatAt s.pc s.cpAgain)

/-- `CPD` (R206). -/
def execCpd (s : State) : Result :=
  .next ((s.begin .ed2 16).blockCp 0xFFFF#16 .noBits)

/-- `CPDR` (R207): one iteration. -/
def execCpdr (s : State) : Result :=
  .next (((s.begin .ed2 (repeatCost s.cpAgain)).blockCp 0xFFFF#16 (repeatBits s.cpAgain)).repeatAt s.pc s.cpAgain)

end Sys2Proof.Machine
end

