-- ==== Sys2Proof/Machine/Control.lean ====
section
/-! DEFINITION. The meanings of the general-purpose arithmetic and CPU control group (spec/44_general_control.md). -/

namespace Sys2Proof.Machine

/-- `DAA` (R250). -/
def execDaa (s : State) : Result :=
  .next (((s.begin .b1 4).setReg .a (daaResult s.main.a s.flags)).setFlags (daaFlags s.main.a s.flags) .yxBits .noBits)

/-- `CPL` (R251). -/
def execCpl (s : State) : Result :=
  .next (((s.begin .b1 4).setReg .a (~~~s.main.a)).setFlags (cplFlags s.flags (~~~s.main.a)) .yxBits .noBits)

/-- `A <- Sub8(0, A, 0)` (R252). -/
def State.negate (s : State) : State :=
  (s.setReg .a (sub8 0#8 s.main.a false)).setFlags (sub8Flags 0#8 s.main.a false) .yxBits .noBits

/-- `NEG` (R252). -/
def execNeg (s : State) : Result := .next ((s.begin .ed2 8).negate)

/-- The duplicates of NEG (R252, D6). -/
def execNegDup (_y : BitVec 3) (s : State) : Result := .next ((s.begin .ed2 8).negate)

/-- `CCF` (R253): Y and X are drawn. -/
def execCcf (s : State) : Result := .next ((s.begin .b1 4).setFlags (ccfFlags s.flags) .noBits .yxBits)

/-- `SCF` (R254): Y and X are drawn. -/
def execScf (s : State) : Result := .next ((s.begin .b1 4).setFlags (scfFlags s.flags) .noBits .yxBits)

/-- `NOP` (R255). -/
def execNop (s : State) : Result := .next (s.begin .b1 4)

/-- `HALT` (R256): PC is the address after the HALT byte. -/
def execHalt (s : State) : Result := .next { s.begin .b1 4 with halted := true }

/-- `DI` (R257). -/
def execDi (s : State) : Result := .next { s.begin .b1 4 with iff1 := false, iff2 := false }

/-- `EI` (R258): the step sets EI_SHADOW. -/
def execEi (s : State) : Result := .next { s.begin .b1 4 with iff1 := true, iff2 := true, eiShadow := true }

/-- `IM <- m` (R259 to R261). -/
def State.setIm (m : IntMode) (s : State) : State := { s with im := m }

/-- `IM 0` (R259). -/
def execIm0 (s : State) : Result := .next ((s.begin .ed2 8).setIm .im0)

/-- The duplicates of `IM 0` (R259, D6, D7). -/
def execIm0Dup (_y : BitVec 3) (s : State) : Result := .next ((s.begin .ed2 8).setIm .im0)

/-- `IM 1` (R260). -/
def execIm1 (s : State) : Result := .next ((s.begin .ed2 8).setIm .im1)

/-- The duplicates of `IM 1` (R260, D6). -/
def execIm1Dup (s : State) : Result := .next ((s.begin .ed2 8).setIm .im1)

/-- `IM 2` (R261). -/
def execIm2 (s : State) : Result := .next ((s.begin .ed2 8).setIm .im2)

/-- The duplicates of `IM 2` (R261, D6). -/
def execIm2Dup (s : State) : Result := .next ((s.begin .ed2 8).setIm .im2)

/-- `NOP*`, ED 00 to 3F (R262): a two-byte no-operation. -/
def execNopEd00 (_u : BitVec 6) (s : State) : Result := .next (s.begin .ed2 8)

/-- `NOP*`, ED 80 to 9F (R262): a two-byte no-operation. -/
def execNopEd80 (_u : BitVec 5) (s : State) : Result := .next (s.begin .ed2 8)

/-- `NOP*`, ED A4-A7, AC-AF, B4-B7 and BC-BF (R262): a two-byte no-operation. -/
def execNopEdA4 (_u _v : BitVec 2) (s : State) : Result := .next (s.begin .ed2 8)

/-- `NOP*`, ED C0 to FF (R262): a two-byte no-operation. -/
def execNopEdC0 (_u : BitVec 6) (s : State) : Result := .next (s.begin .ed2 8)

/-- `NOP*`, ED 77 and 7F (R262): a two-byte no-operation. -/
def execNopEd77 (_u : BitVec 1) (s : State) : Result := .next (s.begin .ed2 8)

end Sys2Proof.Machine
end

