-- ==== Sys2Proof/Machine/InOut.lean ====
section
/-! DEFINITION. The meanings of the input and output group (spec/49_io.md). -/

namespace Sys2Proof.Machine

/-- The port address `(A << 8) | n` of `IN A,(n)` and `OUT (n),A` (R360). -/
def State.portA (n : Byte) (s : State) : Word := joinBytes s.main.a n

/-- `IN A,(n)` (R361): no flag is written. -/
def execInAN (n : Byte) (s : State) : Result :=
  .next ((s.begin .b2n 11).ioTaken.setReg .a (s.ioAnswer (s.portA n)))

/-- The flags of `IN r,(C)` and `IN F,(C)` from the byte read (R362). -/
def State.inFlags (v : Byte) (s : State) : State := s.setFlags (parityFlags s.flags v) .yxBits .noBits

/-- `IN r,(C)` (R362). -/
def execInRC (r : Reg8) (s : State) : Result :=
  .next (((s.begin .ed2 12).ioTaken.setReg r (s.ioAnswer s.bc)).inFlags (s.ioAnswer s.bc))

/-- `IN F,(C)` (R363): only the flags are written. -/
def execInFC (s : State) : Result := .next ((s.begin .ed2 12).ioTaken.inFlags (s.ioAnswer s.bc))

/-- The block I/O instructions go on: the new B is not 0 (R365). -/
def State.ioAgain (s : State) : Bool := s.main.b - 1#8 != 0#8

/-- The bits a continuing block I/O iteration draws (R365). -/
def repeatIoDraws (again : Bool) : Flags := if again then .repeatIoBits else .noBits

/-- The operation of INI and IND (R364, R366): the port is BC with the old B; HL moves by `delta`, and the sum
`k` of the flags uses C moved by `cDelta`. -/
def State.blockIn (delta : Word) (cDelta : Byte) (drawn : Flags) (s : State) : State :=
  let v := s.ioAnswer s.bc
  let b := s.main.b - 1#8
  (((s.ioTaken.writeByte s.hl v).setReg .b b).setHl (s.hl + delta)).setFlags
    (blockIoFlags b v (v.toNat + (s.main.c + cDelta).toNat)) .blockIoBits drawn

/-- The operation of OUTI and OUTD (R371, R373): the port is BC with the new B, and the sum `k` of the flags uses
L after HL has moved by `delta`. -/
def State.blockOut (delta : Word) (drawn : Flags) (s : State) : State :=
  let v := s.readByte s.hl
  let b := s.main.b - 1#8
  (((s.setReg .b b).ioWrite (joinBytes b s.main.c) v).setHl (s.hl + delta)).setFlags
    (blockIoFlags b v (v.toNat + (loByte (s.hl + delta)).toNat)) .blockIoBits drawn

/-- `INI` (R364). -/
def execIni (s : State) : Result :=
  .next ((s.begin .ed2 16).blockIn 1#16 1#8 .noBits)

/-- `INIR` (R365): one iteration. -/
def execInir (s : State) : Result :=
  .next (((s.begin .ed2 (repeatCost s.ioAgain)).blockIn 1#16 1#8 (repeatIoDraws s.ioAgain)).repeatAt
    s.pc s.ioAgain)

/-- `IND` (R366). -/
def execInd (s : State) : Result :=
  .next ((s.begin .ed2 16).blockIn 0xFFFF#16 0xFF#8 .noBits)

/-- `INDR` (R367): one iteration. -/
def execIndr (s : State) : Result :=
  .next (((s.begin .ed2 (repeatCost s.ioAgain)).blockIn 0xFFFF#16 0xFF#8 (repeatIoDraws s.ioAgain)).repeatAt
    s.pc s.ioAgain)

/-- `OUT (n),A` (R368). -/
def execOutNA (n : Byte) (s : State) : Result :=
  .next ((s.begin .b2n 11).ioWrite (s.portA n) s.main.a)

/-- `OUT (C),r` (R369). -/
def execOutCR (r : Reg8) (s : State) : Result := .next ((s.begin .ed2 12).ioWrite s.bc (s.reg r))

/-- `OUT (C),0` (R370). -/
def execOutC0 (s : State) : Result := .next ((s.begin .ed2 12).ioWrite s.bc Config.outC0Value)

/-- `OUTI` (R371). -/
def execOuti (s : State) : Result :=
  .next ((s.begin .ed2 16).blockOut 1#16 .noBits)

/-- `OTIR` (R372): one iteration. -/
def execOtir (s : State) : Result :=
  .next (((s.begin .ed2 (repeatCost s.ioAgain)).blockOut 1#16 (repeatIoDraws s.ioAgain)).repeatAt
    s.pc s.ioAgain)

/-- `OUTD` (R373). -/
def execOutd (s : State) : Result :=
  .next ((s.begin .ed2 16).blockOut 0xFFFF#16 .noBits)

/-- `OTDR` (R374): one iteration. -/
def execOtdr (s : State) : Result :=
  .next (((s.begin .ed2 (repeatCost s.ioAgain)).blockOut 0xFFFF#16 (repeatIoDraws s.ioAgain)).repeatAt
    s.pc s.ioAgain)

end Sys2Proof.Machine
end

