-- ==== Sys2Proof/Machine/Jump.lean ====
section
/-! DEFINITION. The meanings of the jump, call and return group (spec/48_jump_call.md). -/

namespace Sys2Proof.Machine

/-- `JP nn` (R331). -/
def execJpNn (nn : Word) (s : State) : Result :=
  .next ((s.begin .b3nn 10).setPc nn)

/-- A transfer of control that happens when `taken` (R121, R332 to R341): else PC stays `PCn`. -/
def State.ifTaken (taken : Bool) (go : State → State) (s : State) : State :=
  if taken then go s else s

/-- `JP cc,nn` (R332). -/
def execJpCcNn (cc : Cond) (nn : Word) (s : State) : Result :=
  .next ((s.begin .b3nn 10).ifTaken (s.flags.holds cc) (fun s' => s'.setPc nn))

/-- `PC <- wrap16(PCn + sext_16(e))` (R109). -/
def State.jumpRel (e : Byte) (s : State) : State := s.setPc (s.relTarget e)

/-- `JR e` (R333). -/
def execJrE (e : Byte) (s : State) : Result := .next ((s.begin .b2e 12).jumpRel e)

/-- `JR cc,e` (R334). -/
def execJrCcE (cc : RelCond) (e : Byte) (s : State) : Result :=
  let taken := s.flags.holds (condOfRel cc)
  .next ((s.begin .b2e (if taken then 12 else 7)).ifTaken taken (fun s' => s'.jumpRel e))

/-- `JP (HL)` (R335): no memory is read. -/
def execJpHl (s : State) : Result :=
  .next ((s.begin .b1 4).setPc s.hl)

/-- `JP (XY)` (R336). -/
def execJpXy (xy : Index) (s : State) : Result :=
  .next ((s.begin .x2 8).setPc (s.xy xy))

/-- `DJNZ e` (R337): the decrement does not touch F. -/
def execDjnzE (e : Byte) (s : State) : Result :=
  let taken := s.main.b - 1#8 != 0#8
  .next (((s.begin .b2e (if taken then 13 else 8)).setReg .b (s.main.b - 1#8)).ifTaken taken
    (fun s' => s'.jumpRel e))

/-- `CALL nn` (R338). -/
def execCallNn (nn : Word) (s : State) : Result :=
  .next ((s.begin .b3nn 17).call nn)

/-- `CALL cc,nn` (R339). -/
def execCallCcNn (cc : Cond) (nn : Word) (s : State) : Result :=
  let taken := s.flags.holds cc
  .next ((s.begin .b3nn (if taken then 17 else 10)).ifTaken taken (fun s' => s'.call nn))

/-- `RET` (R340). -/
def execRet (s : State) : Result := .next ((s.begin .b1 10).ret)

/-- `RET cc` (R341). -/
def execRetCc (cc : Cond) (s : State) : Result :=
  let taken := s.flags.holds cc
  .next ((s.begin .b1 (if taken then 11 else 5)).ifTaken taken (fun s' => s'.ret))

/-- `RETI` (R342). -/
def execReti (s : State) : Result := .next ((s.begin .ed2 14).retInt)

/-- `RETN` (R343). -/
def execRetn (s : State) : Result := .next ((s.begin .ed2 14).retInt)

/-- The duplicates of RETN (R343, D6). -/
def execRetnDup (_y : BitVec 3) (s : State) : Result := .next ((s.begin .ed2 14).retInt)

/-- The restart address `8 * t` (R106, R344). -/
def rstTarget (t : BitVec 3) : Word := BitVec.ofNat 16 (8 * t.toNat)

/-- `RST p` (R344). -/
def execRstP (p : BitVec 3) (s : State) : Result := .next ((s.begin .b1 11).call (rstTarget p))

end Sys2Proof.Machine
end

