-- ==== Sys2Proof/Machine/Load16.lean ====
section
/-! DEFINITION. The meanings of the 16-bit load, stack and exchange group (spec/41_load16_exchange.md). -/

namespace Sys2Proof.Machine

/-- `LD dd,nn` (R170). -/
def execLdDdNn (dd : Pair) (nn : Word) (s : State) : Result :=
  .next ((s.begin .b3nn 10).setPair dd nn)

/-- `LD XY,nn` (R171). -/
def execLdXyNn (xy : Index) (nn : Word) (s : State) : Result :=
  .next ((s.begin .x4nn 14).setXy xy nn)

/-- `LD HL,(nn)` (R172). -/
def execLdHlMem (nn : Word) (s : State) : Result :=
  .next ((s.begin .b3nn 16).setHl (s.readWord nn))

/-- `LD dd,(nn)` (R173). -/
def execLdDdMem (dd : Pair) (nn : Word) (s : State) : Result :=
  .next ((s.begin .ed4nn 20).setPair dd (s.readWord nn))

/-- `LD XY,(nn)` (R174). -/
def execLdXyMem (xy : Index) (nn : Word) (s : State) : Result :=
  .next ((s.begin .x4nn 20).setXy xy (s.readWord nn))

/-- `LD (nn),HL` (R175). -/
def execLdMemHl (nn : Word) (s : State) : Result :=
  .next ((s.begin .b3nn 16).writeWord nn s.hl)

/-- `LD (nn),dd` (R176). -/
def execLdMemDd (nn : Word) (dd : Pair) (s : State) : Result :=
  .next ((s.begin .ed4nn 20).writeWord nn (s.pair dd))

/-- `LD (nn),XY` (R177). -/
def execLdMemXy (nn : Word) (xy : Index) (s : State) : Result :=
  .next ((s.begin .x4nn 20).writeWord nn (s.xy xy))

/-- `LD SP,HL` (R178). -/
def execLdSpHl (s : State) : Result :=
  .next ((s.begin .b1 6).setSp s.hl)

/-- `LD SP,XY` (R179). -/
def execLdSpXy (xy : Index) (s : State) : Result :=
  .next ((s.begin .x2 10).setSp (s.xy xy))

/-- `PUSH qq` (R180). -/
def execPushQq (qq : StackPair) (s : State) : Result :=
  .next ((s.begin .b1 11).push (s.stackPair qq))

/-- `PUSH XY` (R181). -/
def execPushXy (xy : Index) (s : State) : Result :=
  .next ((s.begin .x2 15).push (s.xy xy))

/-- `POP qq` (R182): `POP AF` writes every bit of F. -/
def execPopQq (qq : StackPair) (s : State) : Result :=
  .next ((s.begin .b1 10).drop.setStackPair qq s.top)

/-- `POP XY` (R183). -/
def execPopXy (xy : Index) (s : State) : Result :=
  .next ((s.begin .x2 14).drop.setXy xy s.top)

/-- `EX DE,HL` (R184). -/
def execExDeHl (s : State) : Result :=
  .next (((s.begin .b1 4).setDe s.hl).setHl s.de)

/-- `EX AF,AF'` (R185). -/
def execExAfAf (s : State) : Result :=
  .next { s.begin .b1 4 with
          main := { s.main with a := s.alt.a, f := s.alt.f }
          alt := { s.alt with a := s.main.a, f := s.main.f } }

/-- `EXX` (R186): every register of the two sets but A and F changes places. -/
def execExx (s : State) : Result :=
  .next { s.begin .b1 4 with
          main := { s.alt with a := s.main.a, f := s.main.f }
          alt := { s.main with a := s.alt.a, f := s.alt.f } }

/-- `EX (SP),HL` (R187): the word is read before the write. -/
def execExSpHl (s : State) : Result :=
  .next (((s.begin .b1 19).writeWord s.sp s.hl).setHl s.top)

/-- `EX (SP),XY` (R188). -/
def execExSpXy (xy : Index) (s : State) : Result :=
  .next (((s.begin .x2 23).writeWord s.sp (s.xy xy)).setXy xy s.top)

end Sys2Proof.Machine
end

