-- ==== Sys2Proof/Machine/Load8.lean ====
section
/-! DEFINITION. The meanings of the 8-bit load group (spec/40_load8.md). -/

namespace Sys2Proof.Machine

/-- `LD r,r'` (R141). -/
def execLdRR (r r' : Reg8) (s : State) : Result :=
  .next ((s.begin .b1 4).setReg r (s.reg r'))

/-- `LD r,n` (R142). -/
def execLdRN (r : Reg8) (n : Byte) (s : State) : Result :=
  .next ((s.begin .b2n 7).setReg r n)

/-- `LD r,(HL)` (R143): the address is formed before the load. -/
def execLdRHl (r : Reg8) (s : State) : Result :=
  .next ((s.begin .b1 7).setReg r (s.readByte s.hl))

/-- `LD r,(XY+d)` (R144): codes 100 and 101 are H and L. -/
def execLdRXyd (r : Reg8) (xy : Index) (d : Byte) (s : State) : Result :=
  .next ((s.begin .x3d 19).setReg r (s.readByte (s.ea xy d)))

/-- `LD (HL),r` (R145). -/
def execLdHlR (r : Reg8) (s : State) : Result :=
  .next ((s.begin .b1 7).writeByte s.hl (s.reg r))

/-- `LD (XY+d),r` (R146). -/
def execLdXydR (xy : Index) (d : Byte) (r : Reg8) (s : State) : Result :=
  .next ((s.begin .x3d 19).writeByte (s.ea xy d) (s.reg r))

/-- `LD (HL),n` (R147). -/
def execLdHlN (n : Byte) (s : State) : Result :=
  .next ((s.begin .b2n 10).writeByte s.hl n)

/-- `LD (XY+d),n` (R148). -/
def execLdXydN (xy : Index) (d n : Byte) (s : State) : Result :=
  .next ((s.begin .x4dn 19).writeByte (s.ea xy d) n)

/-- `LD A,(BC)` (R149). -/
def execLdABc (s : State) : Result :=
  .next ((s.begin .b1 7).setReg .a (s.readByte s.bc))

/-- `LD A,(DE)` (R150). -/
def execLdADe (s : State) : Result :=
  .next ((s.begin .b1 7).setReg .a (s.readByte s.de))

/-- `LD A,(nn)` (R151). -/
def execLdAMem (nn : Word) (s : State) : Result :=
  .next ((s.begin .b3nn 13).setReg .a (s.readByte nn))

/-- `LD (BC),A` (R152). -/
def execLdBcA (s : State) : Result :=
  .next ((s.begin .b1 7).writeByte s.bc s.main.a)

/-- `LD (DE),A` (R153). -/
def execLdDeA (s : State) : Result :=
  .next ((s.begin .b1 7).writeByte s.de s.main.a)

/-- `LD (nn),A` (R154). -/
def execLdMemA (nn : Word) (s : State) : Result :=
  .next ((s.begin .b3nn 13).writeByte nn s.main.a)

/-- A and the flags after `LD A,I` and `LD A,R` with the special register's value `v` (R155, R156). -/
def State.loadSpecial (v : Byte) (s : State) : State :=
  (s.setReg .a v).setFlags (ldAirFlags s.flags v s.iff2) .yxBits .noBits

/-- `LD A,I` (R155): PV is IFF2 exactly. -/
def execLdAI (s : State) : Result :=
  .next ((s.begin .ed2 9).loadSpecial s.regI)

/-- `LD A,R` (R156): R is read after this step's increment. -/
def execLdAR (s : State) : Result :=
  .next ((s.begin .ed2 9).loadSpecial (bumpR 2 s.regR))

/-- `LD I,A` (R157). -/
def execLdIA (s : State) : Result :=
  .next { s.begin .ed2 9 with regI := s.main.a }

/-- `LD R,A` (R158): written after this step's increment, all 8 bits. -/
def execLdRA (s : State) : Result :=
  .next { s.begin .ed2 9 with regR := s.main.a }

/-- `LD r,r'` with a half register (R159). -/
def execLdHalf (xy : Index) (r r' : HReg) (s : State) : Result :=
  .next ((s.begin .x2 8).setHreg xy r (s.hreg xy r'))

/-- `LD XYh,n` and `LD XYl,n` (R160). -/
def execLdHalfN (xy : Index) (hf : Half) (n : Byte) (s : State) : Result :=
  .next ((s.begin .x3n 11).setHalf xy hf n)

end Sys2Proof.Machine
end

