-- ==== Sys2Proof/Machine/Rotate.lean ====
section
/-! DEFINITION. The meanings of the rotate and shift group (spec/46_rotate_shift.md). -/

namespace Sys2Proof.Machine

/-- The eight rotate and shift operations (R289). -/
inductive RotOp where
  | rlc | rrc | rl | rr | sla | sra | sll | srl
deriving DecidableEq, Repr

/-- The result of an operation on a byte with the old carry (R289 `res`). -/
def rotResult (op : RotOp) (v : Byte) (c : Bool) : Byte :=
  match op with
  | .rlc => (v <<< 1) ||| (v >>> 7)
  | .rrc => (v >>> 1) ||| (v <<< 7)
  | .rl => (v <<< 1) ||| BitVec.ofNat 8 c.toNat
  | .rr => (v >>> 1) ||| (BitVec.ofNat 8 c.toNat <<< 7)
  | .sla => v <<< 1
  | .sra => (v >>> 1) ||| (v &&& 0x80#8)
  | .sll => (v <<< 1) ||| 0x01#8
  | .srl => v >>> 1

/-- The bit an operation shifts out (R289 `co`). -/
def rotOut (op : RotOp) (v : Byte) : Bool :=
  match op with
  | .rlc | .rl | .sla | .sll => v.getLsbD 7
  | .rrc | .rr | .sra | .srl => v.getLsbD 0

/-- An accumulator rotate (R285 to R288): S, Z and PV are kept. -/
def State.rotA (op : RotOp) (s : State) : State :=
  (s.setReg .a (rotResult op s.main.a s.flags.c)).setFlags
    (rotAFlags s.flags (rotResult op s.main.a s.flags.c) (rotOut op s.main.a)) .yxBits .noBits

/-- The flags after a CB rotate or shift of `v` (R289). -/
def State.rotFlagsOf (op : RotOp) (v : Byte) (c : Bool) (s : State) : State :=
  s.setFlags (rotFlags (rotResult op v c) (rotOut op v)) .yxBits .noBits

/-- A rotate or shift of a register (R289). -/
def State.rotReg (op : RotOp) (r : Reg8) (s : State) : State :=
  (s.setReg r (rotResult op (s.reg r) s.flags.c)).rotFlagsOf op (s.reg r) s.flags.c

/-- A rotate or shift of the byte at an address (R289). -/
def State.rotMem (op : RotOp) (a : Word) (s : State) : State :=
  (s.writeByte a (rotResult op (s.readByte a) s.flags.c)).rotFlagsOf op (s.readByte a) s.flags.c

/-- A rotate or shift of the byte at an address with a copy into a register (R298): the register gets the result
even when the write is dropped. -/
def State.rotMemCopy (op : RotOp) (a : Word) (r : Reg8) (s : State) : State :=
  ((s.writeByte a (rotResult op (s.readByte a) s.flags.c)).setReg r
    (rotResult op (s.readByte a) s.flags.c)).rotFlagsOf op (s.readByte a) s.flags.c

/-- `RLCA` (R285). -/
def execRlca (s : State) : Result :=
  .next ((s.begin .b1 4).rotA .rlc)

/-- `RLA` (R286). -/
def execRla (s : State) : Result :=
  .next ((s.begin .b1 4).rotA .rl)

/-- `RRCA` (R287). -/
def execRrca (s : State) : Result :=
  .next ((s.begin .b1 4).rotA .rrc)

/-- `RRA` (R288). -/
def execRra (s : State) : Result :=
  .next ((s.begin .b1 4).rotA .rr)

/-- `RLC r` (R290). -/
def execRlcR (r : Reg8) (s : State) : Result :=
  .next ((s.begin .cb2 8).rotReg .rlc r)

/-- `RLC (HL)` (R290). -/
def execRlcHl (s : State) : Result :=
  .next ((s.begin .cb2 15).rotMem .rlc s.hl)

/-- `RLC (XY+d)` (R290). -/
def execRlcXyd (xy : Index) (d : Byte) (s : State) : Result :=
  .next ((s.begin .x4cb 23).rotMem .rlc (s.ea xy d))

/-- `RLC (XY+d),r` (R298). -/
def execRlcXydR (xy : Index) (d : Byte) (r : Reg8) (s : State) : Result :=
  .next ((s.begin .x4cb 23).rotMemCopy .rlc (s.ea xy d) r)

/-- `RRC r` (R291). -/
def execRrcR (r : Reg8) (s : State) : Result :=
  .next ((s.begin .cb2 8).rotReg .rrc r)

/-- `RRC (HL)` (R291). -/
def execRrcHl (s : State) : Result :=
  .next ((s.begin .cb2 15).rotMem .rrc s.hl)

/-- `RRC (XY+d)` (R291). -/
def execRrcXyd (xy : Index) (d : Byte) (s : State) : Result :=
  .next ((s.begin .x4cb 23).rotMem .rrc (s.ea xy d))

/-- `RRC (XY+d),r` (R298). -/
def execRrcXydR (xy : Index) (d : Byte) (r : Reg8) (s : State) : Result :=
  .next ((s.begin .x4cb 23).rotMemCopy .rrc (s.ea xy d) r)

/-- `RL r` (R292). -/
def execRlR (r : Reg8) (s : State) : Result :=
  .next ((s.begin .cb2 8).rotReg .rl r)

/-- `RL (HL)` (R292). -/
def execRlHl (s : State) : Result :=
  .next ((s.begin .cb2 15).rotMem .rl s.hl)

/-- `RL (XY+d)` (R292). -/
def execRlXyd (xy : Index) (d : Byte) (s : State) : Result :=
  .next ((s.begin .x4cb 23).rotMem .rl (s.ea xy d))

/-- `RL (XY+d),r` (R298). -/
def execRlXydR (xy : Index) (d : Byte) (r : Reg8) (s : State) : Result :=
  .next ((s.begin .x4cb 23).rotMemCopy .rl (s.ea xy d) r)

/-- `RR r` (R293). -/
def execRrR (r : Reg8) (s : State) : Result :=
  .next ((s.begin .cb2 8).rotReg .rr r)

/-- `RR (HL)` (R293). -/
def execRrHl (s : State) : Result :=
  .next ((s.begin .cb2 15).rotMem .rr s.hl)

/-- `RR (XY+d)` (R293). -/
def execRrXyd (xy : Index) (d : Byte) (s : State) : Result :=
  .next ((s.begin .x4cb 23).rotMem .rr (s.ea xy d))

/-- `RR (XY+d),r` (R298). -/
def execRrXydR (xy : Index) (d : Byte) (r : Reg8) (s : State) : Result :=
  .next ((s.begin .x4cb 23).rotMemCopy .rr (s.ea xy d) r)

/-- `SLA r` (R294). -/
def execSlaR (r : Reg8) (s : State) : Result :=
  .next ((s.begin .cb2 8).rotReg .sla r)

/-- `SLA (HL)` (R294). -/
def execSlaHl (s : State) : Result :=
  .next ((s.begin .cb2 15).rotMem .sla s.hl)

/-- `SLA (XY+d)` (R294). -/
def execSlaXyd (xy : Index) (d : Byte) (s : State) : Result :=
  .next ((s.begin .x4cb 23).rotMem .sla (s.ea xy d))

/-- `SLA (XY+d),r` (R298). -/
def execSlaXydR (xy : Index) (d : Byte) (r : Reg8) (s : State) : Result :=
  .next ((s.begin .x4cb 23).rotMemCopy .sla (s.ea xy d) r)

/-- `SRA r` (R295). -/
def execSraR (r : Reg8) (s : State) : Result :=
  .next ((s.begin .cb2 8).rotReg .sra r)

/-- `SRA (HL)` (R295). -/
def execSraHl (s : State) : Result :=
  .next ((s.begin .cb2 15).rotMem .sra s.hl)

/-- `SRA (XY+d)` (R295). -/
def execSraXyd (xy : Index) (d : Byte) (s : State) : Result :=
  .next ((s.begin .x4cb 23).rotMem .sra (s.ea xy d))

/-- `SRA (XY+d),r` (R298). -/
def execSraXydR (xy : Index) (d : Byte) (r : Reg8) (s : State) : Result :=
  .next ((s.begin .x4cb 23).rotMemCopy .sra (s.ea xy d) r)

/-- `SLL r` (R296). -/
def execSllR (r : Reg8) (s : State) : Result :=
  .next ((s.begin .cb2 8).rotReg .sll r)

/-- `SLL (HL)` (R296). -/
def execSllHl (s : State) : Result :=
  .next ((s.begin .cb2 15).rotMem .sll s.hl)

/-- `SLL (XY+d)` (R296). -/
def execSllXyd (xy : Index) (d : Byte) (s : State) : Result :=
  .next ((s.begin .x4cb 23).rotMem .sll (s.ea xy d))

/-- `SLL (XY+d),r` (R298). -/
def execSllXydR (xy : Index) (d : Byte) (r : Reg8) (s : State) : Result :=
  .next ((s.begin .x4cb 23).rotMemCopy .sll (s.ea xy d) r)

/-- `SRL r` (R297). -/
def execSrlR (r : Reg8) (s : State) : Result :=
  .next ((s.begin .cb2 8).rotReg .srl r)

/-- `SRL (HL)` (R297). -/
def execSrlHl (s : State) : Result :=
  .next ((s.begin .cb2 15).rotMem .srl s.hl)

/-- `SRL (XY+d)` (R297). -/
def execSrlXyd (xy : Index) (d : Byte) (s : State) : Result :=
  .next ((s.begin .x4cb 23).rotMem .srl (s.ea xy d))

/-- `SRL (XY+d),r` (R298). -/
def execSrlXydR (xy : Index) (d : Byte) (r : Reg8) (s : State) : Result :=
  .next ((s.begin .x4cb 23).rotMemCopy .srl (s.ea xy d) r)

/-- A and the byte at (HL) after a nibble rotate (R299, R300): `a` and `v` are the new values. -/
def State.nibbles (a v : Byte) (s : State) : State :=
  ((s.writeByte s.hl v).setReg .a a).setFlags (parityFlags s.flags a) .yxBits .noBits

/-- `RLD` (R299). -/
def execRld (s : State) : Result :=
  .next ((s.begin .ed2 18).nibbles ((s.main.a &&& 0xF0#8) ||| (s.readByte s.hl >>> 4))
    ((s.readByte s.hl <<< 4) ||| (s.main.a &&& 0x0F#8)))

/-- `RRD` (R300). -/
def execRrd (s : State) : Result :=
  .next ((s.begin .ed2 18).nibbles ((s.main.a &&& 0xF0#8) ||| (s.readByte s.hl &&& 0x0F#8))
    ((s.main.a <<< 4) ||| (s.readByte s.hl >>> 4)))

end Sys2Proof.Machine
end

