-- ==== Sys2Proof/Machine/Dispatch.lean ====
section
/-! DEFINITION. One arm per constructor of `Instr`: the meaning of each instruction, started at `ia`
(spec/30_encoding.md R115) with no prefix absorbed. -/

namespace Sys2Proof.Machine

def exec (i : Instr) (s : State) : Host.Outcome State Fault Refusal :=
  match i with
  | .ldRR r r' => Sys2Proof.Machine.execLdRR r r' s
  | .ldRN r n => Sys2Proof.Machine.execLdRN r n s
  | .ldRHl r => Sys2Proof.Machine.execLdRHl r s
  | .ldRXyd r xy d => Sys2Proof.Machine.execLdRXyd r xy d s
  | .ldHlR r => Sys2Proof.Machine.execLdHlR r s
  | .ldXydR xy d r => Sys2Proof.Machine.execLdXydR xy d r s
  | .ldHlN n => Sys2Proof.Machine.execLdHlN n s
  | .ldXydN xy d n => Sys2Proof.Machine.execLdXydN xy d n s
  | .ldABc => Sys2Proof.Machine.execLdABc s
  | .ldADe => Sys2Proof.Machine.execLdADe s
  | .ldAMem nn => Sys2Proof.Machine.execLdAMem nn s
  | .ldBcA => Sys2Proof.Machine.execLdBcA s
  | .ldDeA => Sys2Proof.Machine.execLdDeA s
  | .ldMemA nn => Sys2Proof.Machine.execLdMemA nn s
  | .ldAI => Sys2Proof.Machine.execLdAI s
  | .ldAR => Sys2Proof.Machine.execLdAR s
  | .ldIA => Sys2Proof.Machine.execLdIA s
  | .ldRA => Sys2Proof.Machine.execLdRA s
  | .ldHalf xy r r' => Sys2Proof.Machine.execLdHalf xy r r' s
  | .ldHalfN xy hf n => Sys2Proof.Machine.execLdHalfN xy hf n s
  | .ldDdNn dd nn => Sys2Proof.Machine.execLdDdNn dd nn s
  | .ldXyNn xy nn => Sys2Proof.Machine.execLdXyNn xy nn s
  | .ldHlMem nn => Sys2Proof.Machine.execLdHlMem nn s
  | .ldDdMem dd nn => Sys2Proof.Machine.execLdDdMem dd nn s
  | .ldXyMem xy nn => Sys2Proof.Machine.execLdXyMem xy nn s
  | .ldMemHl nn => Sys2Proof.Machine.execLdMemHl nn s
  | .ldMemDd nn dd => Sys2Proof.Machine.execLdMemDd nn dd s
  | .ldMemXy nn xy => Sys2Proof.Machine.execLdMemXy nn xy s
  | .ldSpHl => Sys2Proof.Machine.execLdSpHl s
  | .ldSpXy xy => Sys2Proof.Machine.execLdSpXy xy s
  | .pushQq qq => Sys2Proof.Machine.execPushQq qq s
  | .pushXy xy => Sys2Proof.Machine.execPushXy xy s
  | .popQq qq => Sys2Proof.Machine.execPopQq qq s
  | .popXy xy => Sys2Proof.Machine.execPopXy xy s
  | .exDeHl => Sys2Proof.Machine.execExDeHl s
  | .exAfAf => Sys2Proof.Machine.execExAfAf s
  | .exx => Sys2Proof.Machine.execExx s
  | .exSpHl => Sys2Proof.Machine.execExSpHl s
  | .exSpXy xy => Sys2Proof.Machine.execExSpXy xy s
  | .ldi => Sys2Proof.Machine.execLdi s
  | .ldir => Sys2Proof.Machine.execLdir s
  | .ldd => Sys2Proof.Machine.execLdd s
  | .lddr => Sys2Proof.Machine.execLddr s
  | .cpi => Sys2Proof.Machine.execCpi s
  | .cpir => Sys2Proof.Machine.execCpir s
  | .cpd => Sys2Proof.Machine.execCpd s
  | .cpdr => Sys2Proof.Machine.execCpdr s
  | .addR r => Sys2Proof.Machine.execAddR r s
  | .addN n => Sys2Proof.Machine.execAddN n s
  | .addHl => Sys2Proof.Machine.execAddHl s
  | .addXyd xy d => Sys2Proof.Machine.execAddXyd xy d s
  | .addHalf xy hf => Sys2Proof.Machine.execAddHalf xy hf s
  | .adcR r => Sys2Proof.Machine.execAdcR r s
  | .adcN n => Sys2Proof.Machine.execAdcN n s
  | .adcHl => Sys2Proof.Machine.execAdcHl s
  | .adcXyd xy d => Sys2Proof.Machine.execAdcXyd xy d s
  | .adcHalf xy hf => Sys2Proof.Machine.execAdcHalf xy hf s
  | .subR r => Sys2Proof.Machine.execSubR r s
  | .subN n => Sys2Proof.Machine.execSubN n s
  | .subHl => Sys2Proof.Machine.execSubHl s
  | .subXyd xy d => Sys2Proof.Machine.execSubXyd xy d s
  | .subHalf xy hf => Sys2Proof.Machine.execSubHalf xy hf s
  | .sbcR r => Sys2Proof.Machine.execSbcR r s
  | .sbcN n => Sys2Proof.Machine.execSbcN n s
  | .sbcHl => Sys2Proof.Machine.execSbcHl s
  | .sbcXyd xy d => Sys2Proof.Machine.execSbcXyd xy d s
  | .sbcHalf xy hf => Sys2Proof.Machine.execSbcHalf xy hf s
  | .andR r => Sys2Proof.Machine.execAndR r s
  | .andN n => Sys2Proof.Machine.execAndN n s
  | .andHl => Sys2Proof.Machine.execAndHl s
  | .andXyd xy d => Sys2Proof.Machine.execAndXyd xy d s
  | .andHalf xy hf => Sys2Proof.Machine.execAndHalf xy hf s
  | .xorR r => Sys2Proof.Machine.execXorR r s
  | .xorN n => Sys2Proof.Machine.execXorN n s
  | .xorHl => Sys2Proof.Machine.execXorHl s
  | .xorXyd xy d => Sys2Proof.Machine.execXorXyd xy d s
  | .xorHalf xy hf => Sys2Proof.Machine.execXorHalf xy hf s
  | .orR r => Sys2Proof.Machine.execOrR r s
  | .orN n => Sys2Proof.Machine.execOrN n s
  | .orHl => Sys2Proof.Machine.execOrHl s
  | .orXyd xy d => Sys2Proof.Machine.execOrXyd xy d s
  | .orHalf xy hf => Sys2Proof.Machine.execOrHalf xy hf s
  | .cpR r => Sys2Proof.Machine.execCpR r s
  | .cpN n => Sys2Proof.Machine.execCpN n s
  | .cpHl => Sys2Proof.Machine.execCpHl s
  | .cpXyd xy d => Sys2Proof.Machine.execCpXyd xy d s
  | .cpHalf xy hf => Sys2Proof.Machine.execCpHalf xy hf s
  | .incR r => Sys2Proof.Machine.execIncR r s
  | .incHl => Sys2Proof.Machine.execIncHl s
  | .incXyd xy d => Sys2Proof.Machine.execIncXyd xy d s
  | .incHalf xy hf => Sys2Proof.Machine.execIncHalf xy hf s
  | .decR r => Sys2Proof.Machine.execDecR r s
  | .decHl => Sys2Proof.Machine.execDecHl s
  | .decXyd xy d => Sys2Proof.Machine.execDecXyd xy d s
  | .decHalf xy hf => Sys2Proof.Machine.execDecHalf xy hf s
  | .daa => Sys2Proof.Machine.execDaa s
  | .cpl => Sys2Proof.Machine.execCpl s
  | .neg => Sys2Proof.Machine.execNeg s
  | .negDup y => Sys2Proof.Machine.execNegDup y s
  | .ccf => Sys2Proof.Machine.execCcf s
  | .scf => Sys2Proof.Machine.execScf s
  | .nop => Sys2Proof.Machine.execNop s
  | .halt => Sys2Proof.Machine.execHalt s
  | .di => Sys2Proof.Machine.execDi s
  | .ei => Sys2Proof.Machine.execEi s
  | .im0 => Sys2Proof.Machine.execIm0 s
  | .im0Dup y => Sys2Proof.Machine.execIm0Dup y s
  | .im1 => Sys2Proof.Machine.execIm1 s
  | .im1Dup => Sys2Proof.Machine.execIm1Dup s
  | .im2 => Sys2Proof.Machine.execIm2 s
  | .im2Dup => Sys2Proof.Machine.execIm2Dup s
  | .nopEd00 u => Sys2Proof.Machine.execNopEd00 u s
  | .nopEd80 u => Sys2Proof.Machine.execNopEd80 u s
  | .nopEdA4 u v => Sys2Proof.Machine.execNopEdA4 u v s
  | .nopEdC0 u => Sys2Proof.Machine.execNopEdC0 u s
  | .nopEd77 u => Sys2Proof.Machine.execNopEd77 u s
  | .addHlSs ss => Sys2Proof.Machine.execAddHlSs ss s
  | .adcHlSs ss => Sys2Proof.Machine.execAdcHlSs ss s
  | .sbcHlSs ss => Sys2Proof.Machine.execSbcHlSs ss s
  | .addXyPp xy pp => Sys2Proof.Machine.execAddXyPp xy pp s
  | .incSs ss => Sys2Proof.Machine.execIncSs ss s
  | .incXy xy => Sys2Proof.Machine.execIncXy xy s
  | .decSs ss => Sys2Proof.Machine.execDecSs ss s
  | .decXy xy => Sys2Proof.Machine.execDecXy xy s
  | .rlca => Sys2Proof.Machine.execRlca s
  | .rla => Sys2Proof.Machine.execRla s
  | .rrca => Sys2Proof.Machine.execRrca s
  | .rra => Sys2Proof.Machine.execRra s
  | .rlcR r => Sys2Proof.Machine.execRlcR r s
  | .rlcHl => Sys2Proof.Machine.execRlcHl s
  | .rlcXyd xy d => Sys2Proof.Machine.execRlcXyd xy d s
  | .rlcXydR xy d r => Sys2Proof.Machine.execRlcXydR xy d r s
  | .rrcR r => Sys2Proof.Machine.execRrcR r s
  | .rrcHl => Sys2Proof.Machine.execRrcHl s
  | .rrcXyd xy d => Sys2Proof.Machine.execRrcXyd xy d s
  | .rrcXydR xy d r => Sys2Proof.Machine.execRrcXydR xy d r s
  | .rlR r => Sys2Proof.Machine.execRlR r s
  | .rlHl => Sys2Proof.Machine.execRlHl s
  | .rlXyd xy d => Sys2Proof.Machine.execRlXyd xy d s
  | .rlXydR xy d r => Sys2Proof.Machine.execRlXydR xy d r s
  | .rrR r => Sys2Proof.Machine.execRrR r s
  | .rrHl => Sys2Proof.Machine.execRrHl s
  | .rrXyd xy d => Sys2Proof.Machine.execRrXyd xy d s
  | .rrXydR xy d r => Sys2Proof.Machine.execRrXydR xy d r s
  | .slaR r => Sys2Proof.Machine.execSlaR r s
  | .slaHl => Sys2Proof.Machine.execSlaHl s
  | .slaXyd xy d => Sys2Proof.Machine.execSlaXyd xy d s
  | .slaXydR xy d r => Sys2Proof.Machine.execSlaXydR xy d r s
  | .sraR r => Sys2Proof.Machine.execSraR r s
  | .sraHl => Sys2Proof.Machine.execSraHl s
  | .sraXyd xy d => Sys2Proof.Machine.execSraXyd xy d s
  | .sraXydR xy d r => Sys2Proof.Machine.execSraXydR xy d r s
  | .sllR r => Sys2Proof.Machine.execSllR r s
  | .sllHl => Sys2Proof.Machine.execSllHl s
  | .sllXyd xy d => Sys2Proof.Machine.execSllXyd xy d s
  | .sllXydR xy d r => Sys2Proof.Machine.execSllXydR xy d r s
  | .srlR r => Sys2Proof.Machine.execSrlR r s
  | .srlHl => Sys2Proof.Machine.execSrlHl s
  | .srlXyd xy d => Sys2Proof.Machine.execSrlXyd xy d s
  | .srlXydR xy d r => Sys2Proof.Machine.execSrlXydR xy d r s
  | .rld => Sys2Proof.Machine.execRld s
  | .rrd => Sys2Proof.Machine.execRrd s
  | .bitR b r => Sys2Proof.Machine.execBitR b r s
  | .bitHl b => Sys2Proof.Machine.execBitHl b s
  | .bitXyd b xy d => Sys2Proof.Machine.execBitXyd b xy d s
  | .bitXydDup b xy d r => Sys2Proof.Machine.execBitXydDup b xy d r s
  | .resR b r => Sys2Proof.Machine.execResR b r s
  | .resHl b => Sys2Proof.Machine.execResHl b s
  | .resXyd b xy d => Sys2Proof.Machine.execResXyd b xy d s
  | .resXydR b xy d r => Sys2Proof.Machine.execResXydR b xy d r s
  | .setR b r => Sys2Proof.Machine.execSetR b r s
  | .setHl b => Sys2Proof.Machine.execSetHl b s
  | .setXyd b xy d => Sys2Proof.Machine.execSetXyd b xy d s
  | .setXydR b xy d r => Sys2Proof.Machine.execSetXydR b xy d r s
  | .jpNn nn => Sys2Proof.Machine.execJpNn nn s
  | .jpCcNn cc nn => Sys2Proof.Machine.execJpCcNn cc nn s
  | .jrE e => Sys2Proof.Machine.execJrE e s
  | .jrCcE cc e => Sys2Proof.Machine.execJrCcE cc e s
  | .jpHl => Sys2Proof.Machine.execJpHl s
  | .jpXy xy => Sys2Proof.Machine.execJpXy xy s
  | .djnzE e => Sys2Proof.Machine.execDjnzE e s
  | .callNn nn => Sys2Proof.Machine.execCallNn nn s
  | .callCcNn cc nn => Sys2Proof.Machine.execCallCcNn cc nn s
  | .ret => Sys2Proof.Machine.execRet s
  | .retCc cc => Sys2Proof.Machine.execRetCc cc s
  | .reti => Sys2Proof.Machine.execReti s
  | .retn => Sys2Proof.Machine.execRetn s
  | .retnDup y => Sys2Proof.Machine.execRetnDup y s
  | .rstP p => Sys2Proof.Machine.execRstP p s
  | .inAN n => Sys2Proof.Machine.execInAN n s
  | .inRC r => Sys2Proof.Machine.execInRC r s
  | .inFC => Sys2Proof.Machine.execInFC s
  | .ini => Sys2Proof.Machine.execIni s
  | .inir => Sys2Proof.Machine.execInir s
  | .ind => Sys2Proof.Machine.execInd s
  | .indr => Sys2Proof.Machine.execIndr s
  | .outNA n => Sys2Proof.Machine.execOutNA n s
  | .outCR r => Sys2Proof.Machine.execOutCR r s
  | .outC0 => Sys2Proof.Machine.execOutC0 s
  | .outi => Sys2Proof.Machine.execOuti s
  | .otir => Sys2Proof.Machine.execOtir s
  | .outd => Sys2Proof.Machine.execOutd s
  | .otdr => Sys2Proof.Machine.execOtdr s

end Sys2Proof.Machine
end

