-- ==== Sys2Proof/Machine/Step.lean ====
section
/-! DEFINITION. The step of the machine, and placing an instruction's word where it is fetched. -/

namespace Sys2Proof.Machine

/-- One step of the block (spec/30_encoding.md R120). -/
def step (s : State) : Host.Outcome State Fault Refusal := cycle exec s

/-- `s` with the instruction `w` of spec/opcode_table.json (numbered as the table numbers it) stored at PC, in
the way a load stores bytes (R77), and with nothing that would keep the next step from running it: no event, not
halted, no mark (log entry 6). -/
def State.withFetchWord (s : State) (nbits w : Nat) : State :=
  { s with
    mem := memSetList s.mem s.pc.toNat (tableBytes nbits w)
    events := []
    halted := false
    faultMark := none
    refusedMark := none }

end Sys2Proof.Machine
end

