-- ==== Sys2Proof/Machine/HostOps.lean ====
section
/-! DEFINITION. The host's operations between steps (spec/60_exceptions.md R418): clear (spec/20_memory.md R76),
loadImage (R77) with reset (spec/70_reset_and_hazards.md R440), clearing VideoMemoryChanged (R78), and putting
events and input answers before the block. -/

namespace Sys2Proof.Machine

/-- The values reset draws (R50, R440, D15): the registers the spec leaves unspecified. -/
structure ResetDraws where
  main : RegSet
  alt : RegSet
  ix : Word
  iy : Word
  sp : Word
deriving DecidableEq, Repr

/-- The draws of `State.reset`: zeros (log entry 1). -/
def ResetDraws.zero : ResetDraws :=
  { main := .zero, alt := .zero, ix := 0#16, iy := 0#16, sp := 0#16 }

/-- The memory after a load: cleared, then the image from address 0 on (R76, R77). -/
def imageMemory (bytes : List Byte) : Memory := memSetList [] 0 bytes

/-- `Reset(bytes)` with the values it draws (R440, R50). The schedule, the input answers and the counter of free
values belong to the host and the model, and are kept (DESIGN CHOICE, log entry 9). -/
def resetFrom (bytes : List Byte) (dr : ResetDraws) (s : State) : State :=
  { s with
    main := dr.main, alt := dr.alt, ix := dr.ix, iy := dr.iy, sp := dr.sp
    pc := 0#16, regI := 0#8, regR := 0#8, iff1 := false, iff2 := false, im := .im0
    halted := false, eiShadow := false, t := 0
    mem := imageMemory bytes, romSize := bytes.length, videoChanged := true
    outHistory := [], faultMark := none, refusedMark := none }

/-- `loadImage(bytes)` (R77, R440): none stands for ImageTooLarge, which changes nothing. -/
def loadImage (bytes : List Byte) (dr : ResetDraws) (s : State) : Option State :=
  if bytes.length < Config.maxAddress then some (resetFrom bytes dr s) else none

/-- `clear()` (R76): memory only, no CPU reset. -/
def clearMemory (s : State) : State := { s with mem := [], romSize := 0, videoChanged := true }

/-- The renderer clears VideoMemoryChanged (R78). -/
def clearVideoChanged (s : State) : State := { s with videoChanged := false }

/-- The host presents an event at the coming step (R120, R401). -/
def present (ev : Event) (s : State) : State := { s with events := ev :: s.events.tail }

/-- The host answers the coming IoReads (R80). -/
def answerInputs (vs : List Byte) (s : State) : State := { s with inputs := vs }

end Sys2Proof.Machine
end

