-- ==== Sys2Proof/Machine/Launch.lean ====
section
/-! DEFINITION. Launches and the end of a run (spec/70_reset_and_hazards.md R445): the image and the schedule, the
states `s_0`, `s_1`, ... of the run, its final state, and a hang. -/

namespace Sys2Proof.Machine

/-- A launch `(bytes, schedule)` (R445): the image, and the events the host presents, each with the number of the
step before which it is presented. -/
structure Launch where
  bytes : List Byte
  schedule : List (Nat × Event)
deriving DecidableEq, Repr

/-- A launch R445 admits: an image that fits; steps numbered from 1, each with at most one event (R408), which is
`NMI` or `INT(bus)` (log entry 11). -/
abbrev Launch.legal (l : Launch) : Prop :=
  l.bytes.length < Config.maxAddress ∧ (∀ e ∈ l.schedule, 1 ≤ e.1 ∧ e.2 ≠ .none) ∧
    (l.schedule.map Prod.fst).Nodup

/-- The launch begins in `s`: the result of `Reset(bytes)` with some drawn values (R440, R445). -/
def Launch.begins (l : Launch) (s : State) : Prop := ∃ dr s₀, loadImage l.bytes dr s₀ = some s

/-- The event the schedule presents before step `n`; none where it names no event for it. -/
def eventBefore : List (Nat × Event) → Nat → Event
  | [], _ => .none
  | (k, ev) :: rest, n => if k = n then ev else eventBefore rest n

/-- The state after a step before which the host presents `ev` (R120). A fault or a refusal keeps the state and sets
its mark, and a state with a mark stays as it is (R48, R400). -/
def State.stepWith (ev : Event) (s : State) : State := s.after (step (present ev s))

/-- `s_n` of the run of the launch from `s_0 = s` (R445): step `n + 1` leads from `s_n` to `s_(n+1)`. -/
def Launch.stateAt (l : Launch) (s : State) : Nat → State
  | 0 => s
  | n + 1 => (l.stateAt s n).stepWith (eventBefore l.schedule (n + 1))

/-- The two conditions of R445 on `s_n = s`, and no mark (R400): halted, and `n` greater than every scheduled step
number. -/
abbrev State.final (schedule : List (Nat × Event)) (n : Nat) (s : State) : Prop :=
  s.halted = true ∧ (∀ e ∈ schedule, e.1 < n) ∧ s.unmarked

/-- The run ends at `s_n`: the FIRST state that meets the conditions (R445). -/
def Launch.endsAt (l : Launch) (s : State) (n : Nat) : Prop :=
  (l.stateAt s n).final l.schedule n ∧ ∀ m < n, ¬ (l.stateAt s m).final l.schedule m

/-- `t` is the final state of the run (R445). -/
def Launch.finalState (l : Launch) (s t : State) : Prop := ∃ n, l.endsAt s n ∧ l.stateAt s n = t

/-- The premise "the run reaches a final state" (R445). -/
def Launch.reachesFinal (l : Launch) (s : State) : Prop := ∃ t, l.finalState s t

/-- The premise "no mark set" (R445), for every state of the run. -/
def Launch.noMark (l : Launch) (s : State) : Prop := ∀ n, (l.stateAt s n).unmarked

/-- A hang (R445): no state of the run meets the conditions. -/
def Launch.hangs (l : Launch) (s : State) : Prop := ∀ n, ¬ (l.stateAt s n).final l.schedule n

/-- The number of the first state that meets the conditions, looked for from `s_n = s` over `fuel` more steps. -/
def Launch.searchEnd (l : Launch) : Nat → Nat → State → Option Nat
  | 0, n, s => if s.final l.schedule n then some n else none
  | fuel + 1, n, s =>
    if s.final l.schedule n then some n
    else l.searchEnd fuel (n + 1) (s.stepWith (eventBefore l.schedule (n + 1)))

/-- The number of the step at which the run ends, if it ends within `fuel` steps. -/
def Launch.endWithin (l : Launch) (fuel : Nat) (s : State) : Option Nat := l.searchEnd fuel 0 s

end Sys2Proof.Machine
end

