-- ==== Sys2Proof/Safety.lean ====
section
/-! DEFINITION. The terms claims about runs use: the invariant, a clean launch and runs on the schedule the
state holds (spec/10_state.md R47, R48; spec/70_reset_and_hazards.md R446). Marks are in Machine/Cycle.lean, launches
and the end of a run (R445) in Machine/Launch.lean. -/

namespace Sys2Proof.Machine

/-- The invariant of every reachable state: memory is in its canonical form and RomSize is at most MaxAddress
(R47). -/
abbrev State.Inv (s : State) : Prop := s.mem.wf ∧ s.romSize ≤ Config.maxAddress

/-- A clean launch (R446): the result of a reset with an image that fits, no mark, no latch, T = 0, no output. -/
def CleanLaunch (s : State) : Prop :=
  ∃ bytes dr s₀, loadImage bytes dr s₀ = some s

/-- The state after `n` steps with the events the state's own schedule holds (log entry 4), each mark kept (R48,
R120). A launch's run is `Launch.stateAt`. -/
def runFor : Nat → State → State
  | 0, s => s
  | n + 1, s => runFor n (s.after (step s))

/-- A safe state: its step answers a next state. -/
def State.steps (s : State) : Prop := ∃ t, step s = .next t

end Sys2Proof.Machine
end

