-- ==== Sys2Proof/Certificates/Slice0/Obligations.lean ====
section
/-! DEFINITION. The statements about the model, and before them (namespace `Sys2Proof.Claims`) the words they are
written in: what a step does beside its rule, the flag formulas in the spec's own arithmetic, and the tables of
costs, of written registers and of stored addresses. -/

namespace Sys2Proof.Claims

open Sys2Proof.Machine

/-! ### The step around an instruction -/

/-- R with its low 7 bits advanced by `k` and bit 7 kept (R40, R122). -/
def refreshed (k : Nat) (r : Byte) : Byte := BitVec.ofNat 8 (128 * (r.toNat / 128) + (r.toNat + k) % 128)

/-- The number of opcode fetches of a template: 2 when it begins with CB, ED, DD or FD, else 1 (R122). -/
def fetches (bytes : List Byte) : Nat :=
  if bytes.headD 0#8 ∈ [0xCB#8, 0xED#8, 0xDD#8, 0xFD#8] then 2 else 1

/-- What every instruction step does beside its rule (R120 `Execute`): PC moves past the template, R counts the
opcode fetches, T gains the cost and EI_SHADOW is cleared. -/
def stepOver (bytes : List Byte) (cost : Nat) (s : State) : State :=
  { s with
    pc := s.pc + BitVec.ofNat 16 bytes.length
    regR := refreshed (fetches bytes) s.regR
    t := s.t + cost
    eiShadow := false }

/-- The instruction `i` has the template `bytes`, and `exec i s` ANSWERS A NEXT STATE `t` for which
`post (stepOver bytes cost s) t` holds. -/
def Gives (bytes : List Byte) (i : Instr) (s : State) (cost : Nat) (post : State → State → Prop) : Prop :=
  encode i = bytes ∧ ∃ t, exec i s = .next t ∧ post (stepOver bytes cost s) t

/-! ### Addresses, conditions and stack words in the spec's arithmetic -/

/-- The effective address of an `(XY+d)` operand: `wrap16(XY + sext_16(d))` (R108). -/
def indexed (s : State) (xy : Index) (d : Byte) : Word := BitVec.ofInt 16 ((s.xy xy).toNat + d.toInt)

/-- The target of a relative jump: `wrap16(PCn + sext_16(e))` (R109). -/
def relative (pcn : Word) (e : Byte) : Word := BitVec.ofInt 16 (pcn.toNat + e.toInt)

/-- `cond(c)` of a flag byte (R330): S, Z, PV and C are its bits 7, 6, 2 and 0 (R33). -/
def condition (cc : Cond) (f : Byte) : Bool :=
  match cc with
  | .nz => !f.getLsbD 6
  | .z => f.getLsbD 6
  | .nc => !f.getLsbD 0
  | .c => f.getLsbD 0
  | .po => !f.getLsbD 2
  | .pe => f.getLsbD 2
  | .p => !f.getLsbD 7
  | .m => f.getLsbD 7

/-- The conditions of JR cc among the eight (R106). -/
def relCondition (cc : RelCond) : Cond :=
  match cc with
  | .nz => .nz
  | .z => .z
  | .nc => .nc
  | .c => .c

/-- `Push(v)` (R189): SP goes down by 2, and the word is written at the new SP. -/
def pushed (v : Word) (u : State) : State := ({ u with sp := u.sp - 2#16 }).writeWord (u.sp - 2#16) v

/-- `Pop()` (R189): SP goes up by 2. -/
def popped (u : State) : State := { u with sp := u.sp + 2#16 }

/-- The carry flag as a number. -/
def carry (s : State) : Nat := (s.main.f.getLsbD 0).toNat

/-- `parity(v)` (R7): the number of 1 bits is even. -/
def evenOnes (v : Byte) : Bool := decide ((List.range 8).countP (fun k => v.getLsbD k) % 2 = 0)

/-! ### Flags -/

/-- The flags with S, Z, Y and X from a result byte (R220 `SZXY`) and the other four as given. -/
def resultFlags (res : Byte) (h pv n c : Bool) : Flags :=
  { s := res.getLsbD 7, z := decide (res = 0#8), y := res.getLsbD 5, h := h, x := res.getLsbD 3, pv := pv,
    n := n, c := c }

/-- `Add8(A, v, c)` into A (R220, R222, R223): the result, every flag, and PV as signed overflow. -/
def AddPost (c : Nat) (v : Byte) (u t : State) : Prop :=
  let a := u.main.a
  let res := BitVec.ofNat 8 (a.toNat + v.toNat + c)
  t = (u.setReg .a res).setF t.main.f ∧
  t.flags = resultFlags res (decide (a.toNat % 16 + v.toNat % 16 + c > 15))
    (a.getLsbD 7 == v.getLsbD 7 && res.getLsbD 7 != a.getLsbD 7) false (decide (a.toNat + v.toNat + c > 255)) ∧
  (t.flags.pv = true ↔ a.toInt + v.toInt + c < -128 ∨ a.toInt + v.toInt + c > 127)

/-- `Sub8(m, v, c)` into A (R220, R224, R225, R252): the result, every flag, and PV as signed overflow. -/
def SubPost (m : Byte) (c : Nat) (v : Byte) (u t : State) : Prop :=
  let res := BitVec.ofInt 8 ((m.toNat : Int) - v.toNat - c)
  t = (u.setReg .a res).setF t.main.f ∧
  t.flags = resultFlags res (decide (((m.toNat % 16 : Nat) : Int) - (v.toNat % 16 : Nat) - c < 0))
    (m.getLsbD 7 != v.getLsbD 7 && res.getLsbD 7 != m.getLsbD 7) true (decide ((m.toNat : Int) - v.toNat - c < 0)) ∧
  (t.flags.pv = true ↔ m.toInt - v.toInt - c < -128 ∨ m.toInt - v.toInt - c > 127)

/-- `Logic(res, h)` into A (R220, R226 to R228). -/
def LogicPost (res : Byte) (h : Bool) (u t : State) : Prop :=
  t = (u.setReg .a res).setF t.main.f ∧ t.flags = resultFlags res h (evenOnes res) false false

/-- CP (R229): the flags of a subtraction with Y and X from the operand; A is not written. -/
def ComparePost (v : Byte) (u t : State) : Prop :=
  let a := u.main.a
  let res := BitVec.ofInt 8 ((a.toNat : Int) - v.toNat)
  t = u.setF t.main.f ∧
  t.flags =
    { s := res.getLsbD 7
      z := decide (a = v)
      y := v.getLsbD 5
      h := decide (a.toNat % 16 < v.toNat % 16)
      x := v.getLsbD 3
      pv := a.getLsbD 7 != v.getLsbD 7 && res.getLsbD 7 != a.getLsbD 7
      n := true
      c := decide (a.toNat < v.toNat) }

/-- The five operand forms of R221 with operation code `o`: template, cost, and the operand's value given to
`post`. -/
def FiveForms (o : BitVec 3) (s : State) (reg : Reg8 → Instr) (imm : Byte → Instr) (hl : Instr)
    (xyd : Index → Byte → Instr) (half : Index → Half → Instr) (post : Byte → State → State → Prop) : Prop :=
  (∀ r, Gives [0b10#2 ++ o ++ r.code] (reg r) s 4 (post (s.reg r))) ∧
  (∀ n, Gives [0b11#2 ++ o ++ 0b110#3, n] (imm n) s 7 (post n)) ∧
  Gives [0b10#2 ++ o ++ 0b110#3] hl s 7 (post (s.readByte s.hl)) ∧
  (∀ xy d, Gives [xy.prefixByte, 0b10#2 ++ o ++ 0b110#3, d] (xyd xy d) s 19
    (post (s.readByte (indexed s xy d)))) ∧
  (∀ xy hf, Gives [xy.prefixByte, 0b10#2 ++ o ++ 0b10#2 ++ hf.bit] (half xy hf) s 8 (post (s.half xy hf)))

/-- The four operand forms of INC and DEC (R230, R231) with column code `z`: the operand becomes `res v`, and the
flags are `fl v`, of the operand's old value `v`. -/
def FourForms (z : BitVec 3) (s : State) (reg : Reg8 → Instr) (hl : Instr) (xyd : Index → Byte → Instr)
    (half : Index → Half → Instr) (res : Byte → Byte) (fl : Byte → Flags) : Prop :=
  (∀ r, Gives [0b00#2 ++ r.code ++ z] (reg r) s 4 (fun u t =>
    t = (u.setReg r (res (s.reg r))).setF t.main.f ∧ t.flags = fl (s.reg r))) ∧
  Gives [0b00110#5 ++ z] hl s 11 (fun u t =>
    t = (u.writeByte s.hl (res (s.readByte s.hl))).setF t.main.f ∧ t.flags = fl (s.readByte s.hl)) ∧
  (∀ xy d, Gives [xy.prefixByte, 0b00110#5 ++ z, d] (xyd xy d) s 23 (fun u t =>
    t = (u.writeByte (indexed s xy d) (res (s.readByte (indexed s xy d)))).setF t.main.f ∧
    t.flags = fl (s.readByte (indexed s xy d)))) ∧
  (∀ xy hf, Gives [xy.prefixByte, 0b00#2 ++ hf.code ++ z] (half xy hf) s 8 (fun u t =>
    t = (u.setHalf xy hf (res (s.half xy hf))).setF t.main.f ∧ t.flags = fl (s.half xy hf)))

/-! ### Rotates and shifts (R285 to R298) -/

/-- The result column of R289, in its arithmetic: `v` is the byte, `c` the old carry. -/
def rotated (op : RotOp) (v c : Nat) : Byte :=
  BitVec.ofNat 8 (match op with
    | .rlc => 2 * v % 256 + v / 128
    | .rrc => v / 2 + v % 2 * 128
    | .rl => 2 * v % 256 + c
    | .rr => v / 2 + c * 128
    | .sla => 2 * v % 256
    | .sra => v / 2 + v / 128 * 128
    | .sll => 2 * v % 256 + 1
    | .srl => v / 2)

/-- The carry column of R289. -/
def rotatedOut (op : RotOp) (v : Nat) : Bool :=
  match op with
  | .rlc | .rl | .sla | .sll => decide (v / 128 = 1)
  | .rrc | .rr | .sra | .srl => decide (v % 2 = 1)

/-- An accumulator rotate (R285): C is the bit rotated out, S, Z and PV are kept. -/
def RotateAPost (op : RotOp) (s u t : State) : Prop :=
  let res := rotated op s.main.a.toNat (carry s)
  t = (u.setReg .a res).setF t.main.f ∧
  t.flags = { s.flags with
    c := rotatedOut op s.main.a.toNat, h := false, n := false, y := res.getLsbD 5, x := res.getLsbD 3 }

/-- The four operand forms of a CB rotate or shift (R289, R298) with operation code `o`. -/
def RotateForms (op : RotOp) (o : BitVec 3) (s : State) (reg : Reg8 → Instr) (hl : Instr)
    (xyd : Index → Byte → Instr) (xydR : Index → Byte → Reg8 → Instr) : Prop :=
  let res := fun v : Byte => rotated op v.toNat (carry s)
  let fl := fun v : Byte => resultFlags (res v) false (evenOnes (res v)) false (rotatedOut op v.toNat)
  (∀ r, Gives [0xCB#8, 0b00#2 ++ o ++ r.code] (reg r) s 8 (fun u t =>
    t = (u.setReg r (res (s.reg r))).setF t.main.f ∧ t.flags = fl (s.reg r))) ∧
  Gives [0xCB#8, 0b00#2 ++ o ++ 0b110#3] hl s 15 (fun u t =>
    t = (u.writeByte s.hl (res (s.readByte s.hl))).setF t.main.f ∧ t.flags = fl (s.readByte s.hl)) ∧
  (∀ xy d, Gives [xy.prefixByte, 0xCB#8, d, 0b00#2 ++ o ++ 0b110#3] (xyd xy d) s 23 (fun u t =>
    t = (u.writeByte (indexed s xy d) (res (s.readByte (indexed s xy d)))).setF t.main.f ∧
    t.flags = fl (s.readByte (indexed s xy d)))) ∧
  (∀ xy d r, Gives [xy.prefixByte, 0xCB#8, d, 0b00#2 ++ o ++ r.code] (xydR xy d r) s 23 (fun u t =>
    t = ((u.writeByte (indexed s xy d) (res (s.readByte (indexed s xy d)))).setReg r
      (res (s.readByte (indexed s xy d)))).setF t.main.f ∧
    t.flags = fl (s.readByte (indexed s xy d))))

/-! ### Bit operations (R310 to R316) -/

/-- The flags of BIT (R310 to R312) with `yx` the byte whose bits 5 and 3 give Y and X. -/
def bitTested (old : Flags) (b : BitVec 3) (v yx : Byte) : Flags :=
  { s := decide (b = 7#3) && v.getLsbD 7
    z := !v.getLsbD b.toNat
    y := yx.getLsbD 5
    h := true
    x := yx.getLsbD 3
    pv := !v.getLsbD b.toNat
    n := false
    c := old.c }

/-- A byte with bit `b` made `on`, by arithmetic. -/
def withBit (b : BitVec 3) (on : Bool) (v : Byte) : Byte :=
  if v.getLsbD b.toNat = on then v
  else if on then BitVec.ofNat 8 (v.toNat + 2 ^ b.toNat) else BitVec.ofNat 8 (v.toNat - 2 ^ b.toNat)

/-- The four operand forms of RES and SET (R313 to R316), with `x` the top two bits of the opcode byte. -/
def BitForms (x : BitVec 2) (on : Bool) (s : State) (reg : BitVec 3 → Reg8 → Instr) (hl : BitVec 3 → Instr)
    (xyd : BitVec 3 → Index → Byte → Instr) (xydR : BitVec 3 → Index → Byte → Reg8 → Instr) : Prop :=
  ∀ b : BitVec 3,
  (∀ r, Gives [0xCB#8, x ++ b ++ r.code] (reg b r) s 8 (fun u t => t = u.setReg r (withBit b on (s.reg r)))) ∧
  Gives [0xCB#8, x ++ b ++ 0b110#3] (hl b) s 15 (fun u t =>
    t = u.writeByte s.hl (withBit b on (s.readByte s.hl))) ∧
  (∀ xy d, Gives [xy.prefixByte, 0xCB#8, d, x ++ b ++ 0b110#3] (xyd b xy d) s 23 (fun u t =>
    t = u.writeByte (indexed s xy d) (withBit b on (s.readByte (indexed s xy d))))) ∧
  (∀ xy d r, Gives [xy.prefixByte, 0xCB#8, d, x ++ b ++ r.code] (xydR b xy d r) s 23 (fun u t =>
    t = (u.writeByte (indexed s xy d) (withBit b on (s.readByte (indexed s xy d)))).setReg r
      (withBit b on (s.readByte (indexed s xy d)))))

/-! ### 16-bit arithmetic (R270 to R273) -/

/-- The flags of a 16-bit ADD (R270) of `a` and `b`; S, Z and PV are kept. -/
def addWordFlags (old : Flags) (a b : Word) : Flags :=
  let res := BitVec.ofNat 16 (a.toNat + b.toNat)
  { old with
    h := decide (a.toNat % 4096 + b.toNat % 4096 > 0xFFF)
    n := false
    c := decide (a.toNat + b.toNat > 0xFFFF)
    y := res.getLsbD 13
    x := res.getLsbD 11 }

/-- S, Z, Y and X of a 16-bit result (R271, R272) and the other four flags as given. -/
def wordFlags (res : Word) (h pv n c : Bool) : Flags :=
  { s := res.getLsbD 15, z := decide (res = 0#16), y := res.getLsbD 13, h := h, x := res.getLsbD 11, pv := pv,
    n := n, c := c }

/-! ### Block instructions (R199 to R207, R364 to R374) -/

/-- One iteration of a block transfer (R200 to R203): `delta` moves HL and DE, `rep` is a repeating form. -/
def BlockTransferPost (delta : Word) (rep : Bool) (s u t : State) : Prop :=
  let v := s.readByte s.hl
  let bc := s.bc - 1#16
  let again := rep && decide (bc ≠ 0#16)
  t = { u.writeByte s.de v with main := t.main, pc := if again then s.pc else u.pc, draws := t.draws } ∧
  t.main.a = s.main.a ∧ t.hl = s.hl + delta ∧ t.de = s.de + delta ∧ t.bc = bc ∧
  t.flags.s = s.flags.s ∧ t.flags.z = s.flags.z ∧ t.flags.c = s.flags.c ∧ t.flags.h = false ∧
  t.flags.n = false ∧ t.flags.pv = decide (bc ≠ 0#16) ∧
  (again = false → t.flags.x = (v + s.main.a).getLsbD 3 ∧ t.flags.y = (v + s.main.a).getLsbD 1)

/-- One iteration of a block search (R204 to R207). -/
def BlockSearchPost (delta : Word) (rep : Bool) (s u t : State) : Prop :=
  let v := s.readByte s.hl
  let bc := s.bc - 1#16
  let res := BitVec.ofInt 8 ((s.main.a.toNat : Int) - v.toNat)
  let h := decide (s.main.a.toNat % 16 < v.toNat % 16)
  let k := BitVec.ofInt 8 ((res.toNat : Int) - h.toNat)
  let again := rep && decide (bc ≠ 0#16) && decide (s.main.a ≠ v)
  t = { u with main := t.main, pc := if again then s.pc else u.pc, draws := t.draws } ∧
  t.main.a = s.main.a ∧ t.hl = s.hl + delta ∧ t.de = s.de ∧ t.bc = bc ∧
  t.flags.s = res.getLsbD 7 ∧ t.flags.z = decide (s.main.a = v) ∧ t.flags.c = s.flags.c ∧ t.flags.h = h ∧
  t.flags.n = true ∧ t.flags.pv = decide (bc ≠ 0#16) ∧
  (again = false → t.flags.x = k.getLsbD 3 ∧ t.flags.y = k.getLsbD 1)

/-- `v` is a byte `IoRead(port)` may answer in `s` (R80): the answer the host has ready, else any answer of the
oracle for that port (log entry 5). -/
def Answers (s : State) (port : Word) (v : Byte) : Prop :=
  match s.inputs with
  | w :: _ => v = w
  | [] => ∃ n, v = Config.ioRead n port

/-- `IoBlockFlags(v, k)` with the new B (R364), but for the bits a continuing iteration draws (R365): H, PV, X
and Y. -/
def BlockIoFlags (b v : Byte) (k : Nat) (again : Bool) (t : State) : Prop :=
  t.flags.s = b.getLsbD 7 ∧ t.flags.z = decide (b = 0#8) ∧ t.flags.n = v.getLsbD 7 ∧
  t.flags.c = decide (k > 255) ∧
  (again = false → t.flags.y = b.getLsbD 5 ∧ t.flags.x = b.getLsbD 3 ∧ t.flags.h = decide (k > 255) ∧
    t.flags.pv = evenOnes (BitVec.ofNat 8 (k % 8) ^^^ b))

/-- The registers after an iteration of a block I/O instruction: B is counted down, HL moves, and A, C, D, E are
kept. -/
def BlockIoRegs (delta : Word) (s t : State) : Prop :=
  t.main.b = s.main.b - 1#8 ∧ t.hl = s.hl + delta ∧ t.main.a = s.main.a ∧ t.main.c = s.main.c ∧ t.de = s.de

/-- One iteration of INI, INIR, IND or INDR (R364 to R367): the port is BC before the decrement. -/
def BlockInPost (delta : Word) (cDelta : Byte) (rep : Bool) (s u t : State) : Prop :=
  let b := s.main.b - 1#8
  let again := rep && decide (b ≠ 0#8)
  ∃ v, Answers s s.bc v ∧
  t = { u.writeByte s.hl v with
        main := t.main, pc := if again then s.pc else u.pc, inputs := s.inputs.tail, draws := t.draws } ∧
  BlockIoRegs delta s t ∧ BlockIoFlags b v (v.toNat + (s.main.c + cDelta).toNat) again t

/-- One iteration of OUTI, OTIR, OUTD or OTDR (R371 to R374): the port is BC after the decrement. -/
def BlockOutPost (delta : Word) (rep : Bool) (s u t : State) : Prop :=
  let v := s.readByte s.hl
  let b := s.main.b - 1#8
  let again := rep && decide (b ≠ 0#8)
  t = { u with
        main := t.main, pc := if again then s.pc else u.pc, draws := t.draws,
        outHistory := s.outHistory ++ [(b ++ s.main.c, v)] } ∧
  BlockIoRegs delta s t ∧ BlockIoFlags b v (v.toNat + t.main.l.toNat) again t

/-! ### What each instruction costs, writes and stores -/

/-- The `cycles` column of spec/opcode_table.json (R460), with the taken or the not taken, the repeating or the
final cost as R123 says. -/
def cost (s : State) : Instr → Nat
  | .ldRR .. | .exDeHl | .exAfAf | .exx | .addR .. | .adcR .. | .subR .. | .sbcR .. | .andR .. | .xorR ..
  | .orR .. | .cpR .. | .incR .. | .decR .. | .daa | .cpl | .ccf | .scf | .nop | .halt | .di | .ei | .rlca
  | .rla | .rrca | .rra | .jpHl => 4
  | .ldRN .. | .ldRHl .. | .ldHlR .. | .ldABc | .ldADe | .ldBcA | .ldDeA | .addN .. | .addHl | .adcN .. | .adcHl
  | .subN .. | .subHl | .sbcN .. | .sbcHl | .andN .. | .andHl | .xorN .. | .xorHl | .orN .. | .orHl | .cpN ..
  | .cpHl => 7
  | .ldRXyd .. | .ldXydR .. | .ldXydN .. | .exSpHl | .addXyd .. | .adcXyd .. | .subXyd .. | .sbcXyd ..
  | .andXyd .. | .xorXyd .. | .orXyd .. | .cpXyd .. => 19
  | .ldHlN .. | .ldDdNn .. | .ldSpXy .. | .popQq .. | .incXy .. | .decXy .. | .jpNn .. | .ret => 10
  | .ldAMem .. | .ldMemA .. => 13
  | .ldAI | .ldAR | .ldIA | .ldRA => 9
  | .ldHalf .. | .addHalf .. | .adcHalf .. | .subHalf .. | .sbcHalf .. | .andHalf .. | .xorHalf .. | .orHalf ..
  | .cpHalf .. | .incHalf .. | .decHalf .. | .neg | .negDup .. | .im0 | .im0Dup .. | .im1 | .im1Dup | .im2
  | .im2Dup | .nopEd00 .. | .nopEd80 .. | .nopEdA4 .. | .nopEdC0 .. | .nopEd77 .. | .rlcR .. | .rrcR ..
  | .rlR .. | .rrR .. | .slaR .. | .sraR .. | .sllR .. | .srlR .. | .bitR .. | .resR .. | .setR .. | .jpXy .. => 8
  | .ldHalfN .. | .pushQq .. | .incHl | .decHl | .addHlSs .. | .rstP .. | .inAN .. | .outNA .. => 11
  | .ldXyNn .. | .popXy .. | .reti | .retn | .retnDup .. => 14
  | .ldHlMem .. | .ldMemHl .. | .ldi | .ldd | .cpi | .cpd | .ini | .ind | .outi | .outd => 16
  | .ldDdMem .. | .ldXyMem .. | .ldMemDd .. | .ldMemXy .. | .bitXyd .. | .bitXydDup .. => 20
  | .ldSpHl | .incSs .. | .decSs .. => 6
  | .pushXy .. | .adcHlSs .. | .sbcHlSs .. | .addXyPp .. | .rlcHl | .rrcHl | .rlHl | .rrHl | .slaHl | .sraHl
  | .sllHl | .srlHl | .resHl .. | .setHl .. => 15
  | .exSpXy .. | .incXyd .. | .decXyd .. | .rlcXyd .. | .rlcXydR .. | .rrcXyd .. | .rrcXydR .. | .rlXyd ..
  | .rlXydR .. | .rrXyd .. | .rrXydR .. | .slaXyd .. | .slaXydR .. | .sraXyd .. | .sraXydR .. | .sllXyd ..
  | .sllXydR .. | .srlXyd .. | .srlXydR .. | .resXyd .. | .resXydR .. | .setXyd .. | .setXydR .. => 23
  | .ldir | .lddr => if s.bc ≠ 1#16 then 21 else 16
  | .cpir | .cpdr => if s.bc ≠ 1#16 ∧ s.main.a ≠ s.readByte s.hl then 21 else 16
  | .rld | .rrd => 18
  | .bitHl .. | .jrE .. | .inRC .. | .inFC | .outCR .. | .outC0 => 12
  | .jpCcNn cc _ => if condition cc s.main.f then 10 else 10
  | .jrCcE cc _ => if condition (relCondition cc) s.main.f then 12 else 7
  | .djnzE .. => if s.main.b ≠ 1#8 then 13 else 8
  | .callNn .. => 17
  | .callCcNn cc _ => if condition cc s.main.f then 17 else 10
  | .retCc cc => if condition cc s.main.f then 11 else 5
  | .inir | .indr | .otir | .otdr => if s.main.b ≠ 1#8 then 21 else 16

/-- The pieces of state the instructions write beside PC, R, T, EI_SHADOW and memory. -/
inductive Piece where
  | a | f | b | c | d | e | h | l
  /-- A' and F' -/
  | altAf
  /-- B', C', D', E', H' and L' -/
  | altRest
  | ix | iy | sp | regI | iff1 | iff2 | im | halted
  /-- the IoWrite history -/
  | output
  /-- the IoRead answers the host has ready -/
  | inputs
  /-- RomSize, the marks and the event schedule: no instruction writes them -/
  | host
deriving DecidableEq, Repr

/-- The two states agree on a piece. -/
def Piece.Same (p : Piece) (s t : State) : Prop :=
  match p with
  | .a => t.main.a = s.main.a
  | .f => t.main.f = s.main.f
  | .b => t.main.b = s.main.b
  | .c => t.main.c = s.main.c
  | .d => t.main.d = s.main.d
  | .e => t.main.e = s.main.e
  | .h => t.main.h = s.main.h
  | .l => t.main.l = s.main.l
  | .altAf => t.alt.a = s.alt.a ∧ t.alt.f = s.alt.f
  | .altRest => t.alt.b = s.alt.b ∧ t.alt.c = s.alt.c ∧ t.alt.d = s.alt.d ∧ t.alt.e = s.alt.e ∧
      t.alt.h = s.alt.h ∧ t.alt.l = s.alt.l
  | .ix => t.ix = s.ix
  | .iy => t.iy = s.iy
  | .sp => t.sp = s.sp
  | .regI => t.regI = s.regI
  | .iff1 => t.iff1 = s.iff1
  | .iff2 => t.iff2 = s.iff2
  | .im => t.im = s.im
  | .halted => t.halted = s.halted
  | .output => t.outHistory = s.outHistory
  | .inputs => t.inputs = s.inputs
  | .host => t.romSize = s.romSize ∧ t.faultMark = s.faultMark ∧ t.refusedMark = s.refusedMark ∧
      t.events = s.events

/-- The piece of a register. -/
def regPiece : Reg8 → Piece
  | .b => .b | .c => .c | .d => .d | .e => .e | .h => .h | .l => .l | .a => .a

/-- The piece of an index register. -/
def xyPiece : Index → Piece
  | .ix => .ix | .iy => .iy

/-- The piece of a register in a half-register form. -/
def hregPiece (xy : Index) : HReg → Piece
  | .b => .b | .c => .c | .d => .d | .e => .e | .a => .a | .xh | .xl => xyPiece xy

/-- The pieces of a pair, column dd/ss. -/
def pairPieces : Pair → List Piece
  | .bc => [.b, .c] | .de => [.d, .e] | .hl => [.h, .l] | .sp => [.sp]

/-- The pieces of a pair, column qq. -/
def stackPairPieces : StackPair → List Piece
  | .bc => [.b, .c] | .de => [.d, .e] | .hl => [.h, .l] | .af => [.a, .f]

/-- The pieces an instruction may write. -/
def writes : Instr → List Piece
  | .ldRR r _ | .ldRN r _ | .ldRHl r | .ldRXyd r _ _ | .resR _ r | .resXydR _ _ _ r | .setR _ r
  | .setXydR _ _ _ r => [regPiece r]
  | .ldHlR .. | .ldXydR .. | .ldHlN .. | .ldXydN .. | .ldBcA | .ldDeA | .ldMemA .. | .ldRA | .ldMemHl ..
  | .ldMemDd .. | .ldMemXy .. | .nop | .nopEd00 .. | .nopEd80 .. | .nopEdA4 .. | .nopEdC0 .. | .nopEd77 ..
  | .resHl .. | .resXyd .. | .setHl .. | .setXyd .. | .jpNn .. | .jpCcNn .. | .jrE .. | .jrCcE .. | .jpHl
  | .jpXy .. => []
  | .ldABc | .ldADe | .ldAMem .. => [.a]
  | .ldAI | .ldAR | .addR .. | .addN .. | .addHl | .addXyd .. | .addHalf .. | .adcR .. | .adcN .. | .adcHl
  | .adcXyd .. | .adcHalf .. | .subR .. | .subN .. | .subHl | .subXyd .. | .subHalf .. | .sbcR .. | .sbcN ..
  | .sbcHl | .sbcXyd .. | .sbcHalf .. | .andR .. | .andN .. | .andHl | .andXyd .. | .andHalf .. | .xorR ..
  | .xorN .. | .xorHl | .xorXyd .. | .xorHalf .. | .orR .. | .orN .. | .orHl | .orXyd .. | .orHalf .. | .daa
  | .cpl | .neg | .negDup .. | .rlca | .rla | .rrca | .rra | .rld | .rrd => [.a, .f]
  | .ldIA => [.regI]
  | .ldHalf xy r _ => [hregPiece xy r]
  | .ldHalfN xy _ _ | .ldXyNn xy _ | .ldXyMem xy _ | .exSpXy xy | .incXy xy | .decXy xy => [xyPiece xy]
  | .ldDdNn dd _ | .ldDdMem dd _ => pairPieces dd
  | .ldHlMem .. | .exSpHl => [.h, .l]
  | .ldSpHl | .ldSpXy .. | .pushQq .. | .pushXy .. | .callNn .. | .callCcNn .. | .ret | .retCc .. | .rstP .. => [.sp]
  | .popQq qq => .sp :: stackPairPieces qq
  | .popXy xy => [.sp, xyPiece xy]
  | .exDeHl => [.d, .e, .h, .l]
  | .exAfAf => [.a, .f, .altAf]
  | .exx => [.b, .c, .d, .e, .h, .l, .altRest]
  | .ldi | .ldir | .ldd | .lddr => [.b, .c, .d, .e, .h, .l, .f]
  | .cpi | .cpir | .cpd | .cpdr => [.b, .c, .h, .l, .f]
  | .cpR .. | .cpN .. | .cpHl | .cpXyd .. | .cpHalf .. | .incHl | .incXyd .. | .decHl | .decXyd .. | .ccf | .scf
  | .rlcHl | .rlcXyd .. | .rrcHl | .rrcXyd .. | .rlHl | .rlXyd .. | .rrHl | .rrXyd .. | .slaHl | .slaXyd ..
  | .sraHl | .sraXyd .. | .sllHl | .sllXyd .. | .srlHl | .srlXyd .. | .bitR .. | .bitHl .. | .bitXyd ..
  | .bitXydDup .. => [.f]
  | .incR r | .decR r | .rlcR r | .rlcXydR _ _ r | .rrcR r | .rrcXydR _ _ r | .rlR r | .rlXydR _ _ r | .rrR r
  | .rrXydR _ _ r | .slaR r | .slaXydR _ _ r | .sraR r | .sraXydR _ _ r | .sllR r | .sllXydR _ _ r | .srlR r
  | .srlXydR _ _ r => [regPiece r, .f]
  | .incHalf xy _ | .decHalf xy _ | .addXyPp xy _ => [xyPiece xy, .f]
  | .halt => [.halted]
  | .di | .ei => [.iff1, .iff2]
  | .im0 | .im0Dup .. | .im1 | .im1Dup | .im2 | .im2Dup => [.im]
  | .addHlSs .. | .adcHlSs .. | .sbcHlSs .. => [.h, .l, .f]
  | .incSs ss | .decSs ss => pairPieces ss
  | .djnzE .. => [.b]
  | .reti | .retn | .retnDup .. => [.sp, .iff1]
  | .inAN .. => [.a, .inputs]
  | .inRC r => [regPiece r, .f, .inputs]
  | .inFC => [.f, .inputs]
  | .ini | .inir | .ind | .indr => [.b, .h, .l, .f, .inputs]
  | .outNA .. | .outCR .. | .outC0 => [.output]
  | .outi | .otir | .outd | .otdr => [.b, .h, .l, .f, .output]

/-- The addresses an instruction stores to, computed with the model's own address functions on the state before
it. -/
def storesAt (s : State) : Instr → List Word
  | .ldRR .. | .ldRN .. | .ldRHl .. | .ldRXyd .. | .ldABc | .ldADe | .ldAMem .. | .ldAI | .ldAR | .ldIA | .ldRA
  | .ldHalf .. | .ldHalfN .. | .ldDdNn .. | .ldXyNn .. | .ldHlMem .. | .ldDdMem .. | .ldXyMem .. | .ldSpHl
  | .ldSpXy .. | .popQq .. | .popXy .. | .exDeHl | .exAfAf | .exx | .cpi | .cpir | .cpd | .cpdr | .addR ..
  | .addN .. | .addHl | .addXyd .. | .addHalf .. | .adcR .. | .adcN .. | .adcHl | .adcXyd .. | .adcHalf ..
  | .subR .. | .subN .. | .subHl | .subXyd .. | .subHalf .. | .sbcR .. | .sbcN .. | .sbcHl | .sbcXyd ..
  | .sbcHalf .. | .andR .. | .andN .. | .andHl | .andXyd .. | .andHalf .. | .xorR .. | .xorN .. | .xorHl
  | .xorXyd .. | .xorHalf .. | .orR .. | .orN .. | .orHl | .orXyd .. | .orHalf .. | .cpR .. | .cpN .. | .cpHl
  | .cpXyd .. | .cpHalf .. | .incR .. | .incHalf .. | .decR .. | .decHalf .. | .daa | .cpl | .neg | .negDup ..
  | .ccf | .scf | .nop | .halt | .di | .ei | .im0 | .im0Dup .. | .im1 | .im1Dup | .im2 | .im2Dup | .nopEd00 ..
  | .nopEd80 .. | .nopEdA4 .. | .nopEdC0 .. | .nopEd77 .. | .addHlSs .. | .adcHlSs .. | .sbcHlSs ..
  | .addXyPp .. | .incSs .. | .incXy .. | .decSs .. | .decXy .. | .rlca | .rla | .rrca | .rra | .rlcR ..
  | .rrcR .. | .rlR .. | .rrR .. | .slaR .. | .sraR .. | .sllR .. | .srlR .. | .bitR .. | .bitHl .. | .bitXyd ..
  | .bitXydDup .. | .resR .. | .setR .. | .jpNn .. | .jpCcNn .. | .jrE .. | .jrCcE .. | .jpHl | .jpXy ..
  | .djnzE .. | .ret | .retCc .. | .reti | .retn | .retnDup .. | .inAN .. | .inRC .. | .inFC | .outNA ..
  | .outCR .. | .outC0 | .outi | .otir | .outd | .otdr => []
  | .ldHlR .. | .ldHlN .. | .incHl | .decHl | .rlcHl | .rrcHl | .rlHl | .rrHl | .slaHl | .sraHl | .sllHl
  | .srlHl | .rld | .rrd | .resHl .. | .setHl .. | .ini | .inir | .ind | .indr => [s.hl]
  | .ldXydR xy d _ | .ldXydN xy d _ | .incXyd xy d | .decXyd xy d | .rlcXyd xy d | .rlcXydR xy d _
  | .rrcXyd xy d | .rrcXydR xy d _ | .rlXyd xy d | .rlXydR xy d _ | .rrXyd xy d | .rrXydR xy d _ | .slaXyd xy d
  | .slaXydR xy d _ | .sraXyd xy d | .sraXydR xy d _ | .sllXyd xy d | .sllXydR xy d _ | .srlXyd xy d
  | .srlXydR xy d _ | .resXyd _ xy d | .resXydR _ xy d _ | .setXyd _ xy d | .setXydR _ xy d _ => [s.ea xy d]
  | .ldBcA => [s.bc]
  | .ldDeA | .ldi | .ldir | .ldd | .lddr => [s.de]
  | .ldMemA nn => [nn]
  | .ldMemHl nn | .ldMemDd nn _ | .ldMemXy nn _ => [nn, nn + 1#16]
  | .pushQq .. | .pushXy .. | .callNn .. | .rstP .. => [s.sp - 2#16, s.sp - 1#16]
  | .exSpHl | .exSpXy .. => [s.sp, s.sp + 1#16]
  | .callCcNn cc _ => if condition cc s.main.f then [s.sp - 2#16, s.sp - 1#16] else []

/-- The instructions that may write PC again after `PC <- PCn` (R121): jumps, calls, returns, RST and the
repeating block instructions. -/
def transfers : Instr → Bool
  | .jpNn .. | .jpCcNn .. | .jrE .. | .jrCcE .. | .jpHl | .jpXy .. | .djnzE .. | .callNn .. | .callCcNn .. | .ret
  | .retCc .. | .reti | .retn | .retnDup .. | .rstP .. | .ldir | .lddr | .cpir | .cpdr | .inir | .indr | .otir
  | .otdr => true
  | _ => false

/-- The "flags unaffected" class of R35, class by class: the loads but `LD A,I` and `LD A,R`; PUSH, POP (but POP
AF), EX (but EX AF,AF', whose rule R185 moves F whole) and EXX; INC and DEC of pairs and of XY; jumps, calls,
returns and RST; NOP, NOP*, HALT, DI, EI and IM; SET and RES; `IN A,(n)` and every OUT but the block forms. -/
def flagsUnaffected : Instr → Bool
  | .ldRR .. | .ldRN .. | .ldRHl .. | .ldRXyd .. | .ldHlR .. | .ldXydR .. | .ldHlN .. | .ldXydN .. | .ldABc
  | .ldADe | .ldAMem .. | .ldBcA | .ldDeA | .ldMemA .. | .ldIA | .ldRA | .ldHalf .. | .ldHalfN .. | .ldDdNn ..
  | .ldXyNn .. | .ldHlMem .. | .ldDdMem .. | .ldXyMem .. | .ldMemHl .. | .ldMemDd .. | .ldMemXy .. | .ldSpHl
  | .ldSpXy .. => true
  | .pushQq .. | .pushXy .. | .popXy .. | .exDeHl | .exx | .exSpHl | .exSpXy .. => true
  | .popQq qq => decide (qq ≠ .af)
  | .incSs .. | .incXy .. | .decSs .. | .decXy .. => true
  | .jpNn .. | .jpCcNn .. | .jrE .. | .jrCcE .. | .jpHl | .jpXy .. | .djnzE .. | .callNn .. | .callCcNn .. | .ret
  | .retCc .. | .reti | .retn | .retnDup .. | .rstP .. => true
  | .nop | .nopEd00 .. | .nopEd80 .. | .nopEdA4 .. | .nopEdC0 .. | .nopEd77 .. | .halt | .di | .ei | .im0
  | .im0Dup .. | .im1 | .im1Dup | .im2 | .im2Dup => true
  | .setR .. | .setHl .. | .setXyd .. | .setXydR .. | .resR .. | .resHl .. | .resXyd .. | .resXydR .. => true
  | .inAN .. | .outNA .. | .outCR .. | .outC0 => true
  | _ => false

/-! ### Decoding and the step -/

/-- The 85 bytes of `IndexSet`, part by part as R111 lists them. -/
def inIndexSet (op : Byte) : Bool :=
  (decide (0x40 ≤ op.toNat) && decide (op.toNat ≤ 0x7F) && decide (op ≠ 0x76#8) &&
    (decide (op.toNat / 8 % 8 ∈ [4, 5, 6]) || decide (op.toNat % 8 ∈ [4, 5, 6]))) ||
  (decide (0x80 ≤ op.toNat) && decide (op.toNat ≤ 0xBF) && decide (op.toNat % 8 ∈ [4, 5, 6])) ||
  decide (op.toNat ∈ [0x09, 0x19, 0x29, 0x39, 0x21, 0x22, 0x2A, 0x23, 0x2B, 0x24, 0x25, 0x26, 0x2C, 0x2D, 0x2E,
    0x34, 0x35, 0x36, 0xE1, 0xE3, 0xE5, 0xE9, 0xF9])

/-- What the four bytes at an address decode to. -/
def templateAt (rd : Word → Byte) (a : Word) : Decoded :=
  decodeTemplate (rd a) (rd (a + 1#16)) (rd (a + 2#16)) (rd (a + 3#16))

/-- No interrupt is accepted at the coming step (R120, R403): no event, or an INT while IFF1 = 0 or
EI_SHADOW = 1. -/
def noInterrupt (s : State) : Prop :=
  s.event = .none ∨ ((∃ bus, s.event = .int bus) ∧ (s.iff1 = false ∨ s.eiShadow = true))

/-- What every acceptance leaves (R402) with the given entry address, flip-flops and cost: HALTED and EI_SHADOW
cleared, R advanced by 1, PC pushed. `u` is the state with the event taken off the schedule. -/
def accepted (u : State) (entry : Word) (iff2 : Bool) (cost : Nat) : State :=
  { pushed u.pc u with
    halted := false
    regR := refreshed 1 u.regR
    eiShadow := false
    iff1 := false
    iff2 := iff2
    pc := entry
    t := u.t + cost }

/-- The byte with the decimal digits of a number below 100. -/
def bcd (x : Nat) : Byte := BitVec.ofNat 8 (x / 10 * 16 + x % 10)

end Sys2Proof.Claims

open Sys2Proof Sys2Proof.Machine Sys2Proof.Claims

/-! ### Encoding -/

/-- Decode and encode agree (R110, R116, R119): the template bytes of a well-formed instruction, whatever bytes
follow them, decode to that instruction. -/
def Obligations.DecodeOfEncode : Prop :=
  ∀ (i : Instr) (rest : List Byte), WellFormed i → decodeBytes (encode i ++ rest) = .row i

/-- The other direction (R116, R119): a row the decoder finds is well formed, and its template bytes are the bytes
it was found at. -/
def Obligations.EncodeOfDecode : Prop :=
  ∀ (b0 b1 b2 b3 : Byte) (i : Instr), decodeTemplate b0 b1 b2 b3 = .row i →
    WellFormed i ∧ encode i = [b0, b1, b2, b3].take i.format.length

/-- Byte sequences the spec itself decodes: ZXS §8's scenarios (R82, R113, R290, R255) and examples of R104, R112,
R141, R146, R200, R270, R310, R333, R361 and R404. -/
def Obligations.SpecByteSequencesDecode : Prop :=
  decodeBytes [0xDD#8, 0x21#8, 0x34#8, 0x12#8] = .row (.ldXyNn .ix 0x1234#16) ∧
  decodeBytes [0xDD#8, 0xCB#8, 0x06#8, 0x46#8] = .row (.bitXyd 0#3 .ix 6#8) ∧
  decodeBytes [0xCB#8, 0x07#8] = .row (.rlcR .a) ∧
  decodeBytes [0x00#8] = .row .nop ∧
  decodeBytes [0x78#8] = .row (.ldRR .a .b) ∧
  decodeBytes [0xDD#8, 0x65#8] = .row (.ldHalf .ix .xh .xl) ∧
  decodeBytes [0xDD#8, 0x66#8, 0x05#8] = .row (.ldRXyd .h .ix 5#8) ∧
  decodeBytes [0xFD#8, 0x71#8, 0x05#8] = .row (.ldXydR .iy 5#8 .c) ∧
  decodeBytes [0xED#8, 0x44#8] = .row .neg ∧
  decodeBytes [0xDD#8, 0xED#8, 0x44#8] = .absorbed ∧
  decodeBytes [0xED#8, 0xA0#8] = .row .ldi ∧
  decodeBytes [0x09#8] = .row (.addHlSs .bc) ∧
  decodeBytes [0xCB#8, 0x68#8] = .row (.bitR 5#3 .b) ∧
  decodeBytes [0x18#8, 0xFE#8] = .row (.jrE 0xFE#8) ∧
  decodeBytes [0xDB#8, 0xFE#8] = .row (.inAN 0xFE#8) ∧
  decodeBytes [0xFF#8] = .row (.rstP 7#3)

/-- R111, R112: a DD or FD prefix is absorbed exactly when its next byte is neither 0xCB nor in IndexSet, and
IndexSet has 85 bytes. -/
def Obligations.IndexPrefixAbsorption : Prop :=
  (∀ (p b1 b2 b3 : Byte), p = 0xDD#8 ∨ p = 0xFD#8 →
    (decodeTemplate p b1 b2 b3 = .absorbed ↔ b1 ≠ 0xCB#8 ∧ inIndexSet b1 = false)) ∧
  (∀ (p b1 b2 b3 : Byte), p ≠ 0xDD#8 → p ≠ 0xFD#8 → ∃ i, decodeTemplate p b1 b2 b3 = .row i) ∧
  (List.range 256).countP (fun n => inIndexSet (BitVec.ofNat 8 n)) = 85

/-- R118: decode gives no instruction exactly when memory holds only 0xDD and 0xFD bytes, and a step over such a
memory faults with PrefixChainUnbounded and the PC of the step. -/
def Obligations.DecodeFaultsOnlyOnPrefixMemory : Prop :=
  (∀ (rd : Word → Byte) (a : Word), decodeAt rd a = none ↔ ∀ x, rd x = 0xDD#8 ∨ rd x = 0xFD#8) ∧
  (∀ s : State, s.unmarked → s.halted = false → noInterrupt s →
    (∀ a, s.readByte a = 0xDD#8 ∨ s.readByte a = 0xFD#8) → step s = .fault (.prefixChainUnbounded s.pc))

/-- R110, R115: the instruction decode finds from `a` stands at `wrap16(a + k)`, and each of the `k` positions
before it holds a prefix that absorbs. -/
def Obligations.DecodeSkipsAbsorbedPrefixes : Prop :=
  ∀ (rd : Word → Byte) (a : Word) (k : Nat) (i : Instr),
    decodeAt rd a = some (k, i) ↔
      k < 65536 ∧ (∀ j < k, templateAt rd (a + BitVec.ofNat 16 j) = .absorbed) ∧
        templateAt rd (a + BitVec.ofNat 16 k) = .row i

/-! ### The step -/

/-- R120: when the bytes at PC decode to `i` and no interrupt is accepted, the step is `exec i` on the state with
its event taken off the schedule; the schedule is the model's choice (log entry 4). -/
def Obligations.StepRunsDecodedInstruction : Prop :=
  ∀ (s : State) (i : Instr), s.unmarked → s.halted = false → noInterrupt s →
    templateAt s.fetch s.pc = .row i → step s = exec i { s with events := s.events.tail }

/-- R112, R114, R122, R123: after `k` absorbed prefixes the step is `exec i` from the instruction's own address,
with R advanced by `k` and T by `4 * k`; the event taken off the schedule is the model's choice (log entry 4). -/
def Obligations.StepRunsAfterAbsorbedPrefixes : Prop :=
  ∀ (s : State) (k : Nat) (i : Instr), s.unmarked → s.halted = false → noInterrupt s → k < 65536 →
    (∀ j < k, templateAt s.fetch (s.pc + BitVec.ofNat 16 j) = .absorbed) →
    templateAt s.fetch (s.pc + BitVec.ofNat 16 k) = .row i →
    step s = exec i { s with
      events := s.events.tail
      pc := s.pc + BitVec.ofNat 16 k
      regR := refreshed k s.regR
      t := s.t + 4 * k }

/-- R400, R451: no instruction traps or stops, whatever its operands and the state; and a step answers a next state
unless a mark is set, a mode-0 interrupt is accepted with a bus byte that is no RST opcode, or memory holds only
absorbing prefixes. -/
def Obligations.StopsAreListed : Prop :=
  (∀ (i : Instr) (s : State), ∃ t, exec i s = .next t) ∧
  ∀ s : State,
    (∃ t, step s = .next t) ∨ ¬ s.unmarked ∨
    (∃ bus, s.event = .int bus ∧ s.iff1 = true ∧ s.eiShadow = false ∧ s.im = .im0 ∧
      bus &&& 0xC7#8 ≠ 0xC7#8 ∧ step s = .refused (.im0BusNotRst bus)) ∨
    ((∀ a, s.readByte a = 0xDD#8 ∨ s.readByte a = 0xFD#8) ∧ step s = .fault (.prefixChainUnbounded s.pc))

/-- R48, R120 (derived): a state with a mark has no step; this model answers the mark's reason again, which is its
own choice (log entry 8), and the state that leaves keeps the marks. -/
def Obligations.MarkedStates : Prop :=
  (∀ (s : State) (r : Fault), s.faultMark = some r → step s = .fault r ∧ s.after (step s) = s) ∧
  (∀ (s : State) (r : Refusal), s.faultMark = none → s.refusedMark = some r →
    step s = .refused r ∧ s.after (step s) = s)

/-- R406: the halted idle cycle; the event taken off the schedule is the model's choice (log entry 4). -/
def Obligations.HaltedIdleCycle : Prop :=
  ∀ s : State, s.unmarked → s.halted = true → noInterrupt s → step s = .next { s with
    events := s.events.tail, regR := refreshed 1 s.regR, t := s.t + 4, eiShadow := false }

/-- R402, R407: the non-maskable interrupt is accepted whatever the flip-flops, the mode and EI_SHADOW hold; IFF2
is kept and PC is 0x0066; the schedule the event comes from is the model's choice (log entry 4). -/
def Obligations.NmiAcceptance : Prop :=
  ∀ (s : State) (es : List Event), s.unmarked → s.events = .nmi :: es →
    step s = .next (accepted { s with events := es } 0x0066#16 s.iff2 11)

/-- R402 to R405: acceptance of `INT(bus)` in each mode when IFF1 = 1 and EI_SHADOW = 0, with the refusal of mode 0,
which keeps the state and sets the mark; otherwise the step is as if no interrupt were presented. The schedule the
event comes from, kept by a refusal, and the state `after` a refusal are the model's choices (log entries 4, 8). -/
def Obligations.MaskableAcceptance : Prop :=
  (∀ (s : State) (bus : Byte) (es : List Event), s.unmarked → s.events = .int bus :: es →
    s.iff1 = false ∨ s.eiShadow = true → step s = step { s with events := .none :: es }) ∧
  ∀ (s : State) (bus : Byte) (es : List Event), s.unmarked → s.events = .int bus :: es → s.iff1 = true →
    s.eiShadow = false →
    let u := { s with events := es }
    (s.im = .im0 → bus &&& 0xC7#8 = 0xC7#8 →
      step s = .next (accepted u (0x00#8 ++ (bus &&& 0x38#8)) false 13)) ∧
    (s.im = .im0 → bus &&& 0xC7#8 ≠ 0xC7#8 →
      step s = .refused (.im0BusNotRst bus) ∧
      s.after (step s) = { s with refusedMark := some (.im0BusNotRst bus) }) ∧
    (s.im = .im1 → step s = .next (accepted u 0x0038#16 false 13)) ∧
    (s.im = .im2 → step s = .next (accepted u ((pushed s.pc u).readWord (s.regI ++ bus)) false 19))

/-! ### Rules of every instruction -/

/-- R123: an instruction adds the cost of its row of the cycle table to T. -/
def Obligations.CostOfEveryInstruction : Prop :=
  ∀ (i : Instr) (s t : State), exec i s = .next t → t.t = s.t + cost s i

/-- R122, R40, R44: an instruction adds its opcode fetches to the low 7 bits of R and keeps bit 7, except that
`LD R,A` sets R to A; EI_SHADOW is set by EI and cleared by every other instruction. -/
def Obligations.RefreshAndShadow : Prop :=
  ∀ (i : Instr) (s t : State), exec i s = .next t →
    (i ≠ .ldRA → t.regR = refreshed (fetches (encode i)) s.regR) ∧
    (i = .ldRA → t.regR = s.main.a) ∧
    t.eiShadow = decide (i = .ei)

/-- R121, R114: an instruction that does not transfer control leaves PC at the address after its template. -/
def Obligations.PcAfterNonTransfer : Prop :=
  ∀ (i : Instr) (s t : State), exec i s = .next t → transfers i = false →
    t.pc = s.pc + BitVec.ofNat 16 (encode i).length

/-- The register frame of all 203 instructions: a register, an alternate register, IX, IY, SP, I, a flip-flop, IM,
HALTED, the output history, the input answers, RomSize, the marks and the schedule are unchanged unless `writes`
names them for the instruction. -/
def Obligations.RegisterFrame : Prop :=
  ∀ (i : Instr) (s t : State) (p : Piece), exec i s = .next t → p ∉ writes i → p.Same s t

/-- R35: the instructions of the "flags unaffected" class leave every bit of F. -/
def Obligations.FlagsUnaffectedClass : Prop :=
  ∀ (i : Instr) (s t : State), exec i s = .next t → flagsUnaffected i = true → t.main.f = s.main.f

/-- The memory frame of all 203 instructions: every byte outside the addresses the instruction stores to reads as
before; an instruction that stores nothing has none. -/
def Obligations.MemoryFrame : Prop :=
  ∀ (i : Instr) (s t : State) (a : Word), exec i s = .next t → a ∉ storesAt s i → t.readByte a = s.readByte a

/-- R79: no step changes a byte of the ROM region or its size. -/
def Obligations.RomNeverWritten : Prop :=
  ∀ s t : State, step s = .next t →
    t.romSize = s.romSize ∧ ∀ a : Word, a.toNat < s.romSize → t.readByte a = s.readByte a

/-- R73, R78: after a step VideoMemoryChanged is set exactly when it was set before or the step changed a byte in
0x4000 to 0x5AFF. -/
def Obligations.VideoFlagLatches : Prop :=
  ∀ s t : State, step s = .next t →
    (t.videoChanged = true ↔ s.videoChanged = true ∨
      ∃ a : Word, 0x4000 ≤ a.toNat ∧ a.toNat < 0x5B00 ∧ t.readByte a ≠ s.readByte a)

/-- R47: every step keeps memory in its canonical form and RomSize at most MaxAddress. -/
def Obligations.StepKeepsInv : Prop := ∀ s t : State, s.Inv → step s = .next t → t.Inv

/-- The invariant holds after reset, and the state after reset is the reset with the empty image on the values log
entry 1 names (the model's choice). -/
def Obligations.ResetInv : Prop :=
  State.reset.Inv ∧ loadImage [] .zero State.reset = some State.reset

/-! ### Memory and reset -/

/-- R73: the three cases of a byte write, each with its whole effect. -/
def Obligations.ByteWrite : Prop :=
  ∀ (s : State) (a : Word) (v : Byte),
    (a.toNat < s.romSize → s.writeByte a v = s) ∧
    (s.romSize ≤ a.toNat → s.readByte a = v → s.writeByte a v = s) ∧
    (s.romSize ≤ a.toNat → s.readByte a ≠ v →
      s.writeByte a v = { s with
        mem := (s.writeByte a v).mem
        videoChanged := s.videoChanged || decide ((0x4000 ≤ a.toNat ∧ a.toNat < 0x5800) ∨
          (0x5800 ≤ a.toNat ∧ a.toNat < 0x5B00)) } ∧
      (s.writeByte a v).readByte a = v ∧
      ∀ b, b ≠ a → (s.writeByte a v).readByte b = s.readByte b)

/-- R74, R75: words are little-endian, the second address wraps, and a word write is its two byte writes, low byte
first; where neither is protected, the word reads back (R82). -/
def Obligations.WordAccess : Prop :=
  ∀ (s : State) (a w : Word),
    (s.readWord a).toNat = (s.readByte (a + 1#16)).toNat * 256 + (s.readByte a).toNat ∧
    s.writeWord a w =
      (s.writeByte a (BitVec.ofNat 8 w.toNat)).writeByte (a + 1#16) (BitVec.ofNat 8 (w.toNat / 256)) ∧
    (s.romSize ≤ a.toNat → s.romSize ≤ (a + 1#16).toNat → (s.writeWord a w).readWord a = w)

/-- R76, R77, R440, R50: a load of an image that fits clears memory, stores the image from address 0, sets RomSize
and resets the CPU, with the unspecified registers drawn; an image that does not fit changes nothing; clear
changes memory only. -/
def Obligations.LoadImageResets : Prop :=
  ∀ (bytes : List Byte) (dr : ResetDraws) (s : State),
    (bytes.length < 65536 → ∃ t, loadImage bytes dr s = some t ∧
      (∀ a : Word, t.readByte a = bytes.getD a.toNat 0#8) ∧ t.romSize = bytes.length ∧ t.videoChanged = true ∧
      t.pc = 0#16 ∧ t.regI = 0#8 ∧ t.regR = 0#8 ∧ t.iff1 = false ∧ t.iff2 = false ∧ t.im = .im0 ∧
      t.halted = false ∧ t.eiShadow = false ∧ t.t = 0 ∧ t.faultMark = none ∧ t.refusedMark = none ∧
      t.outHistory = [] ∧ t.main = dr.main ∧ t.alt = dr.alt ∧ t.ix = dr.ix ∧ t.iy = dr.iy ∧ t.sp = dr.sp) ∧
    (65536 ≤ bytes.length → loadImage bytes dr s = none) ∧
    (∀ a : Word, (clearMemory s).readByte a = 0#8) ∧
    clearMemory s = { s with mem := (clearMemory s).mem, romSize := 0, videoChanged := true }

/-- R31, R33, R36, R104: the pairs, the index halves and the flag positions are views of the registers, and a
write of a register or a half leaves the others. -/
def Obligations.RegisterViews : Prop :=
  ∀ s : State,
    s.bc.toNat = s.main.b.toNat * 256 + s.main.c.toNat ∧ s.de.toNat = s.main.d.toNat * 256 + s.main.e.toNat ∧
    s.hl.toNat = s.main.h.toNat * 256 + s.main.l.toNat ∧ s.af.toNat = s.main.a.toNat * 256 + s.main.f.toNat ∧
    (∀ xy, (s.xy xy).toNat = (s.half xy .hi).toNat * 256 + (s.half xy .lo).toNat) ∧
    (∀ (p : Pair) v, (s.setPair p v).pair p = v) ∧ (∀ (q : StackPair) v, (s.setStackPair q v).stackPair q = v) ∧
    (∀ r r' v, (s.setReg r v).reg r' = if r' = r then v else s.reg r') ∧
    (∀ r v, (s.setReg r v).main.f = s.main.f) ∧
    (∀ xy hf hf' v, (s.setHalf xy hf v).half xy hf' = if hf' = hf then v else s.half xy hf') ∧
    (s.flags.s = s.main.f.getLsbD 7 ∧ s.flags.z = s.main.f.getLsbD 6 ∧ s.flags.y = s.main.f.getLsbD 5 ∧
      s.flags.h = s.main.f.getLsbD 4 ∧ s.flags.x = s.main.f.getLsbD 3 ∧ s.flags.pv = s.main.f.getLsbD 2 ∧
      s.flags.n = s.main.f.getLsbD 1 ∧ s.flags.c = s.main.f.getLsbD 0) ∧
    (∀ r : Reg8, Reg8.ofCode r.code = some r) ∧ Reg8.ofCode 6#3 = none

/-! ### 8-bit loads -/

/-- R141 to R144 and R149 to R151: the loads of a register. -/
def Obligations.LoadRegister : Prop :=
  ∀ s : State,
    (∀ r r', Gives [0b01#2 ++ r.code ++ r'.code] (.ldRR r r') s 4 (fun u t => t = u.setReg r (s.reg r'))) ∧
    (∀ r n, Gives [0b00#2 ++ r.code ++ 0b110#3, n] (.ldRN r n) s 7 (fun u t => t = u.setReg r n)) ∧
    (∀ r, Gives [0b01#2 ++ r.code ++ 0b110#3] (.ldRHl r) s 7 (fun u t => t = u.setReg r (s.readByte s.hl))) ∧
    (∀ r xy d, Gives [xy.prefixByte, 0b01#2 ++ r.code ++ 0b110#3, d] (.ldRXyd r xy d) s 19 (fun u t =>
      t = u.setReg r (s.readByte (indexed s xy d)))) ∧
    Gives [0x0A#8] .ldABc s 7 (fun u t => t = u.setReg .a (s.readByte s.bc)) ∧
    Gives [0x1A#8] .ldADe s 7 (fun u t => t = u.setReg .a (s.readByte s.de)) ∧
    (∀ nn, Gives [0x3A#8, loByte nn, hiByte nn] (.ldAMem nn) s 13 (fun u t => t = u.setReg .a (s.readByte nn)))

/-- R145 to R148 and R152 to R154: the byte stores. -/
def Obligations.StoreByte : Prop :=
  ∀ s : State,
    (∀ r, Gives [0b01110#5 ++ r.code] (.ldHlR r) s 7 (fun u t => t = u.writeByte s.hl (s.reg r))) ∧
    (∀ xy d r, Gives [xy.prefixByte, 0b01110#5 ++ r.code, d] (.ldXydR xy d r) s 19 (fun u t =>
      t = u.writeByte (indexed s xy d) (s.reg r))) ∧
    (∀ n, Gives [0x36#8, n] (.ldHlN n) s 10 (fun u t => t = u.writeByte s.hl n)) ∧
    (∀ xy d n, Gives [xy.prefixByte, 0x36#8, d, n] (.ldXydN xy d n) s 19 (fun u t =>
      t = u.writeByte (indexed s xy d) n)) ∧
    Gives [0x02#8] .ldBcA s 7 (fun u t => t = u.writeByte s.bc s.main.a) ∧
    Gives [0x12#8] .ldDeA s 7 (fun u t => t = u.writeByte s.de s.main.a) ∧
    (∀ nn, Gives [0x32#8, loByte nn, hiByte nn] (.ldMemA nn) s 13 (fun u t => t = u.writeByte nn s.main.a))

/-- R155 to R158: the loads from and to I and R. `LD A,R` reads R after the step's increment; PV is IFF2. -/
def Obligations.LoadSpecial : Prop :=
  ∀ s : State,
    Gives [0xED#8, 0x57#8] .ldAI s 9 (fun u t => t = (u.setReg .a s.regI).setF t.main.f ∧
      t.flags = resultFlags s.regI false s.iff2 false s.flags.c) ∧
    Gives [0xED#8, 0x5F#8] .ldAR s 9 (fun u t => t = (u.setReg .a (refreshed 2 s.regR)).setF t.main.f ∧
      t.flags = resultFlags (refreshed 2 s.regR) false s.iff2 false s.flags.c) ∧
    Gives [0xED#8, 0x47#8] .ldIA s 9 (fun u t => t = { u with regI := s.main.a }) ∧
    Gives [0xED#8, 0x4F#8] .ldRA s 9 (fun u t => t = { u with regR := s.main.a })

/-- R159, R160: the half-register loads. -/
def Obligations.LoadHalf : Prop :=
  ∀ s : State,
    (∀ xy r r', Gives [xy.prefixByte, 0b01#2 ++ r.code ++ r'.code] (.ldHalf xy r r') s 8 (fun u t =>
      t = u.setHreg xy r (s.hreg xy r'))) ∧
    (∀ xy hf n, Gives [xy.prefixByte, 0b00#2 ++ hf.code ++ 0b110#3, n] (.ldHalfN xy hf n) s 11 (fun u t =>
      t = u.setHalf xy hf n))

/-! ### 16-bit loads, stack and exchanges -/

/-- R170 to R174, R178, R179: the 16-bit loads. -/
def Obligations.LoadWord : Prop :=
  ∀ s : State,
    (∀ dd nn, Gives [0b00#2 ++ dd.code ++ 0b0001#4, loByte nn, hiByte nn] (.ldDdNn dd nn) s 10 (fun u t =>
      t = u.setPair dd nn)) ∧
    (∀ xy nn, Gives [xy.prefixByte, 0x21#8, loByte nn, hiByte nn] (.ldXyNn xy nn) s 14 (fun u t =>
      t = u.setXy xy nn)) ∧
    (∀ nn, Gives [0x2A#8, loByte nn, hiByte nn] (.ldHlMem nn) s 16 (fun u t => t = u.setHl (s.readWord nn))) ∧
    (∀ dd nn, Gives [0xED#8, 0b01#2 ++ dd.code ++ 0b1011#4, loByte nn, hiByte nn] (.ldDdMem dd nn) s 20 (fun u t =>
      t = u.setPair dd (s.readWord nn))) ∧
    (∀ xy nn, Gives [xy.prefixByte, 0x2A#8, loByte nn, hiByte nn] (.ldXyMem xy nn) s 20 (fun u t =>
      t = u.setXy xy (s.readWord nn))) ∧
    Gives [0xF9#8] .ldSpHl s 6 (fun u t => t = { u with sp := s.hl }) ∧
    (∀ xy, Gives [xy.prefixByte, 0xF9#8] (.ldSpXy xy) s 10 (fun u t => t = { u with sp := s.xy xy }))

/-- R175 to R177: the 16-bit stores. -/
def Obligations.StoreWord : Prop :=
  ∀ s : State,
    (∀ nn, Gives [0x22#8, loByte nn, hiByte nn] (.ldMemHl nn) s 16 (fun u t => t = u.writeWord nn s.hl)) ∧
    (∀ nn dd, Gives [0xED#8, 0b01#2 ++ dd.code ++ 0b0011#4, loByte nn, hiByte nn] (.ldMemDd nn dd) s 20 (fun u t =>
      t = u.writeWord nn (s.pair dd))) ∧
    (∀ nn xy, Gives [xy.prefixByte, 0x22#8, loByte nn, hiByte nn] (.ldMemXy nn xy) s 20 (fun u t =>
      t = u.writeWord nn (s.xy xy)))

/-- R180 to R183, R189: push and pop. -/
def Obligations.PushPop : Prop :=
  ∀ s : State,
    (∀ qq, Gives [0b11#2 ++ qq.code ++ 0b0101#4] (.pushQq qq) s 11 (fun u t => t = pushed (s.stackPair qq) u)) ∧
    (∀ xy, Gives [xy.prefixByte, 0xE5#8] (.pushXy xy) s 15 (fun u t => t = pushed (s.xy xy) u)) ∧
    (∀ qq, Gives [0b11#2 ++ qq.code ++ 0b0001#4] (.popQq qq) s 10 (fun u t =>
      t = (popped u).setStackPair qq (s.readWord s.sp))) ∧
    (∀ xy, Gives [xy.prefixByte, 0xE1#8] (.popXy xy) s 14 (fun u t => t = (popped u).setXy xy (s.readWord s.sp)))

/-- R184 to R186: the register exchanges. -/
def Obligations.ExchangeRegisters : Prop :=
  ∀ s : State,
    Gives [0xEB#8] .exDeHl s 4 (fun u t => t = { u with
      main := { s.main with d := s.main.h, e := s.main.l, h := s.main.d, l := s.main.e } }) ∧
    Gives [0x08#8] .exAfAf s 4 (fun u t => t = { u with
      main := { s.main with a := s.alt.a, f := s.alt.f }
      alt := { s.alt with a := s.main.a, f := s.main.f } }) ∧
    Gives [0xD9#8] .exx s 4 (fun u t => t = { u with
      main := { s.main with b := s.alt.b, c := s.alt.c, d := s.alt.d, e := s.alt.e, h := s.alt.h, l := s.alt.l }
      alt := { s.alt with
        b := s.main.b, c := s.main.c, d := s.main.d, e := s.main.e, h := s.main.h, l := s.main.l } })

/-- R187, R188: the exchanges with the top of the stack: the register gets the word even when the write is
dropped. -/
def Obligations.ExchangeStackTop : Prop :=
  ∀ s : State,
    Gives [0xE3#8] .exSpHl s 19 (fun u t => t = (u.writeWord s.sp s.hl).setHl (s.readWord s.sp)) ∧
    (∀ xy, Gives [xy.prefixByte, 0xE3#8] (.exSpXy xy) s 23 (fun u t =>
      t = (u.writeWord s.sp (s.xy xy)).setXy xy (s.readWord s.sp)))

/-! ### Block transfer and search -/

/-- R199 to R203: one iteration of LDI, LDIR, LDD and LDDR; a continuing one sets PC to `ia` and costs 21. -/
def Obligations.BlockTransfer : Prop :=
  ∀ s : State,
    let c := if s.bc ≠ 1#16 then 21 else 16
    Gives [0xED#8, 0xA0#8] .ldi s 16 (BlockTransferPost 1#16 false s) ∧
    Gives [0xED#8, 0xB0#8] .ldir s c (BlockTransferPost 1#16 true s) ∧
    Gives [0xED#8, 0xA8#8] .ldd s 16 (BlockTransferPost (-1#16) false s) ∧
    Gives [0xED#8, 0xB8#8] .lddr s c (BlockTransferPost (-1#16) true s)

/-- R199, R204 to R207: one iteration of CPI, CPIR, CPD and CPDR; a continuing one sets PC to `ia` and costs
21. -/
def Obligations.BlockSearch : Prop :=
  ∀ s : State,
    let c := if s.bc ≠ 1#16 ∧ s.main.a ≠ s.readByte s.hl then 21 else 16
    Gives [0xED#8, 0xA1#8] .cpi s 16 (BlockSearchPost 1#16 false s) ∧
    Gives [0xED#8, 0xB1#8] .cpir s c (BlockSearchPost 1#16 true s) ∧
    Gives [0xED#8, 0xA9#8] .cpd s 16 (BlockSearchPost (-1#16) false s) ∧
    Gives [0xED#8, 0xB9#8] .cpdr s c (BlockSearchPost (-1#16) true s)

/-! ### 8-bit arithmetic and logic -/

/-- R222, R223 over the forms of R221: ADD and ADC. -/
def Obligations.AddAdc : Prop :=
  ∀ s : State,
    FiveForms 0#3 s .addR .addN .addHl .addXyd .addHalf (AddPost 0) ∧
    FiveForms 1#3 s .adcR .adcN .adcHl .adcXyd .adcHalf (AddPost (carry s))

/-- R224, R225 over the forms of R221, and R252: SUB, SBC and NEG with its duplicates. -/
def Obligations.SubSbcNeg : Prop :=
  ∀ s : State,
    FiveForms 2#3 s .subR .subN .subHl .subXyd .subHalf (SubPost s.main.a 0) ∧
    FiveForms 3#3 s .sbcR .sbcN .sbcHl .sbcXyd .sbcHalf (SubPost s.main.a (carry s)) ∧
    Gives [0xED#8, 0x44#8] .neg s 8 (SubPost 0#8 0 s.main.a) ∧
    (∀ y, Gives [0xED#8, 0b01#2 ++ y ++ 0b100#3] (.negDup y) s 8 (SubPost 0#8 0 s.main.a))

/-- R226 to R228 over the forms of R221: AND, XOR and OR. -/
def Obligations.AndXorOr : Prop :=
  ∀ s : State,
    FiveForms 4#3 s .andR .andN .andHl .andXyd .andHalf (fun v => LogicPost (s.main.a &&& v) true) ∧
    FiveForms 5#3 s .xorR .xorN .xorHl .xorXyd .xorHalf (fun v => LogicPost (s.main.a ^^^ v) false) ∧
    FiveForms 6#3 s .orR .orN .orHl .orXyd .orHalf (fun v => LogicPost (s.main.a ||| v) false)

/-- R229 over the forms of R221: CP leaves A. -/
def Obligations.Compare : Prop :=
  ∀ s : State, FiveForms 7#3 s .cpR .cpN .cpHl .cpXyd .cpHalf ComparePost

/-- R230, R231: INC and DEC of a byte; C is kept. -/
def Obligations.IncDecByte : Prop :=
  ∀ s : State,
    FourForms 4#3 s .incR .incHl .incXyd .incHalf (fun v => BitVec.ofNat 8 (v.toNat + 1))
      (fun v => resultFlags (BitVec.ofNat 8 (v.toNat + 1)) (decide (v.toNat % 16 = 15)) (decide (v = 0x7F#8))
        false s.flags.c) ∧
    FourForms 5#3 s .decR .decHl .decXyd .decHalf (fun v => BitVec.ofInt 8 ((v.toNat : Int) - 1))
      (fun v => resultFlags (BitVec.ofInt 8 ((v.toNat : Int) - 1)) (decide (v.toNat % 16 = 0))
        (decide (v = 0x80#8)) true s.flags.c)

/-! ### General arithmetic and control -/

/-- R250: DAA, for every A and F. -/
def Obligations.DecimalAdjust : Prop :=
  ∀ s : State,
    let a := s.main.a.toNat
    let fl := s.flags
    let corr : Nat := (if fl.h = true ∨ a % 16 > 9 then 0x06 else 0) + (if fl.c = true ∨ a > 0x99 then 0x60 else 0)
    let res := if fl.n = true then BitVec.ofInt 8 ((a : Int) - corr) else BitVec.ofNat 8 (a + corr)
    Gives [0x27#8] .daa s 4 (fun u t => t = (u.setReg .a res).setF t.main.f ∧
      t.flags = resultFlags res
        (if fl.n = true then fl.h && decide (a % 16 < 6) else decide (a % 16 > 9)) (evenOnes res) fl.n
        (fl.c || decide (a > 0x99)))

/-- Derived from R222 and R250: after `ADD A,n` of two packed decimal numbers, DAA leaves the decimal sum in A and
its hundreds in C. -/
def Obligations.DecimalAddition : Prop :=
  ∀ (s t w : State) (x y : Nat), x < 100 → y < 100 → s.main.a = bcd x → exec (.addN (bcd y)) s = .next t →
    exec .daa t = .next w → w.main.a = bcd ((x + y) % 100) ∧ (w.flags.c = true ↔ x + y ≥ 100)

/-- R251, R253, R254: CPL, CCF and SCF; Y and X of CCF and SCF are draws, of which nothing is said. -/
def Obligations.ComplementAndCarry : Prop :=
  ∀ s : State,
    let a' := BitVec.ofNat 8 (255 - s.main.a.toNat)
    Gives [0x2F#8] .cpl s 4 (fun u t => t = (u.setReg .a a').setF t.main.f ∧
      t.flags = { s.flags with h := true, n := true, y := a'.getLsbD 5, x := a'.getLsbD 3 }) ∧
    Gives [0x3F#8] .ccf s 4 (fun u t => t = { u.setF t.main.f with draws := t.draws } ∧
      t.flags = { s.flags with h := s.flags.c, c := !s.flags.c, n := false, y := t.flags.y, x := t.flags.x }) ∧
    Gives [0x37#8] .scf s 4 (fun u t => t = { u.setF t.main.f with draws := t.draws } ∧
      t.flags = { s.flags with h := false, c := true, n := false, y := t.flags.y, x := t.flags.x })

/-- R255 to R262: NOP, HALT, DI, EI, IM 0, 1 and 2 with their duplicates, and the five rows of NOP*. -/
def Obligations.CpuControl : Prop :=
  ∀ s : State,
    Gives [0x00#8] .nop s 4 (fun u t => t = u) ∧
    Gives [0x76#8] .halt s 4 (fun u t => t = { u with halted := true }) ∧
    Gives [0xF3#8] .di s 4 (fun u t => t = { u with iff1 := false, iff2 := false }) ∧
    Gives [0xFB#8] .ei s 4 (fun u t => t = { u with iff1 := true, iff2 := true, eiShadow := true }) ∧
    Gives [0xED#8, 0x46#8] .im0 s 8 (fun u t => t = { u with im := .im0 }) ∧
    (∀ y, Gives [0xED#8, 0b01#2 ++ y ++ 0b110#3] (.im0Dup y) s 8 (fun u t => t = { u with im := .im0 })) ∧
    Gives [0xED#8, 0x56#8] .im1 s 8 (fun u t => t = { u with im := .im1 }) ∧
    Gives [0xED#8, 0x76#8] .im1Dup s 8 (fun u t => t = { u with im := .im1 }) ∧
    Gives [0xED#8, 0x5E#8] .im2 s 8 (fun u t => t = { u with im := .im2 }) ∧
    Gives [0xED#8, 0x7E#8] .im2Dup s 8 (fun u t => t = { u with im := .im2 }) ∧
    (∀ u', Gives [0xED#8, 0b00#2 ++ u'] (.nopEd00 u') s 8 (fun u t => t = u)) ∧
    (∀ u', Gives [0xED#8, 0b100#3 ++ u'] (.nopEd80 u') s 8 (fun u t => t = u)) ∧
    (∀ u' v, Gives [0xED#8, 0b101#3 ++ u' ++ 0b1#1 ++ v] (.nopEdA4 u' v) s 8 (fun u t => t = u)) ∧
    (∀ u', Gives [0xED#8, 0b11#2 ++ u'] (.nopEdC0 u') s 8 (fun u t => t = u)) ∧
    (∀ u', Gives [0xED#8, 0b0111#4 ++ u' ++ 0b111#3] (.nopEd77 u') s 8 (fun u t => t = u))

/-! ### 16-bit arithmetic -/

/-- R270, R273: `ADD HL,ss` and `ADD XY,pp`. -/
def Obligations.AddWord : Prop :=
  ∀ s : State,
    (∀ ss, Gives [0b00#2 ++ ss.code ++ 0b1001#4] (.addHlSs ss) s 11 (fun u t =>
      t = (u.setHl (BitVec.ofNat 16 (s.hl.toNat + (s.pair ss).toNat))).setF t.main.f ∧
      t.flags = addWordFlags s.flags s.hl (s.pair ss))) ∧
    (∀ xy pp, Gives [xy.prefixByte, 0b00#2 ++ pp.code ++ 0b1001#4] (.addXyPp xy pp) s 15 (fun u t =>
      t = (u.setXy xy (BitVec.ofNat 16 ((s.xy xy).toNat + (s.indexPair xy pp).toNat))).setF t.main.f ∧
      t.flags = addWordFlags s.flags (s.xy xy) (s.indexPair xy pp)))

/-- R271, R272: `ADC HL,ss` and `SBC HL,ss`. -/
def Obligations.AdcSbcWord : Prop :=
  ∀ (s : State) (ss : Pair),
    let a := s.hl
    let b := s.pair ss
    let sum := a.toNat + b.toNat + carry s
    let diff := (a.toNat : Int) - b.toNat - carry s
    Gives [0xED#8, 0b01#2 ++ ss.code ++ 0b1010#4] (.adcHlSs ss) s 15 (fun u t =>
      let res := BitVec.ofNat 16 sum
      t = (u.setHl res).setF t.main.f ∧
      t.flags = wordFlags res (decide (a.toNat % 4096 + b.toNat % 4096 + carry s > 0xFFF))
        (a.getLsbD 15 == b.getLsbD 15 && res.getLsbD 15 != a.getLsbD 15) false (decide (sum > 0xFFFF))) ∧
    Gives [0xED#8, 0b01#2 ++ ss.code ++ 0b0010#4] (.sbcHlSs ss) s 15 (fun u t =>
      let res := BitVec.ofInt 16 diff
      t = (u.setHl res).setF t.main.f ∧
      t.flags = wordFlags res (decide (((a.toNat % 4096 : Nat) : Int) - (b.toNat % 4096 : Nat) - carry s < 0))
        (a.getLsbD 15 != b.getLsbD 15 && res.getLsbD 15 != a.getLsbD 15) true (decide (diff < 0)))

/-- R274 to R277: INC and DEC of a pair and of an index register; no flag is written. -/
def Obligations.IncDecWord : Prop :=
  ∀ s : State,
    (∀ ss, Gives [0b00#2 ++ ss.code ++ 0b0011#4] (.incSs ss) s 6 (fun u t =>
      t = u.setPair ss (BitVec.ofNat 16 ((s.pair ss).toNat + 1)))) ∧
    (∀ xy, Gives [xy.prefixByte, 0x23#8] (.incXy xy) s 10 (fun u t =>
      t = u.setXy xy (BitVec.ofNat 16 ((s.xy xy).toNat + 1)))) ∧
    (∀ ss, Gives [0b00#2 ++ ss.code ++ 0b1011#4] (.decSs ss) s 6 (fun u t =>
      t = u.setPair ss (BitVec.ofInt 16 (((s.pair ss).toNat : Int) - 1)))) ∧
    (∀ xy, Gives [xy.prefixByte, 0x2B#8] (.decXy xy) s 10 (fun u t =>
      t = u.setXy xy (BitVec.ofInt 16 (((s.xy xy).toNat : Int) - 1))))

/-! ### Rotates and shifts -/

/-- R285 to R288: the accumulator rotates. -/
def Obligations.RotateAccumulator : Prop :=
  ∀ s : State,
    Gives [0x07#8] .rlca s 4 (RotateAPost .rlc s) ∧
    Gives [0x17#8] .rla s 4 (RotateAPost .rl s) ∧
    Gives [0x0F#8] .rrca s 4 (RotateAPost .rrc s) ∧
    Gives [0x1F#8] .rra s 4 (RotateAPost .rr s)

/-- R289 to R298: the eight CB operations in their four forms; the copy form writes the register even when the
memory write is dropped. -/
def Obligations.RotateShift : Prop :=
  ∀ s : State,
    RotateForms .rlc 0#3 s .rlcR .rlcHl .rlcXyd .rlcXydR ∧
    RotateForms .rrc 1#3 s .rrcR .rrcHl .rrcXyd .rrcXydR ∧
    RotateForms .rl 2#3 s .rlR .rlHl .rlXyd .rlXydR ∧
    RotateForms .rr 3#3 s .rrR .rrHl .rrXyd .rrXydR ∧
    RotateForms .sla 4#3 s .slaR .slaHl .slaXyd .slaXydR ∧
    RotateForms .sra 5#3 s .sraR .sraHl .sraXyd .sraXydR ∧
    RotateForms .sll 6#3 s .sllR .sllHl .sllXyd .sllXydR ∧
    RotateForms .srl 7#3 s .srlR .srlHl .srlXyd .srlXydR

/-- R299, R300: the nibble rotates between A and (HL); C is kept. -/
def Obligations.RotateDigit : Prop :=
  ∀ s : State,
    let a := s.main.a.toNat
    let v := (s.readByte s.hl).toNat
    Gives [0xED#8, 0x6F#8] .rld s 18 (fun u t =>
      let a' := BitVec.ofNat 8 (a / 16 * 16 + v / 16)
      t = ((u.writeByte s.hl (BitVec.ofNat 8 (v % 16 * 16 + a % 16))).setReg .a a').setF t.main.f ∧
      t.flags = resultFlags a' false (evenOnes a') false s.flags.c) ∧
    Gives [0xED#8, 0x67#8] .rrd s 18 (fun u t =>
      let a' := BitVec.ofNat 8 (a / 16 * 16 + v % 16)
      t = ((u.writeByte s.hl (BitVec.ofNat 8 (a % 16 * 16 + v / 16))).setReg .a a').setF t.main.f ∧
      t.flags = resultFlags a' false (evenOnes a') false s.flags.c)

/-! ### Bits -/

/-- R310 to R312: BIT in its forms; Y and X are the value's for a register, the address's high byte's for
`(XY+d)`, and draws for `(HL)`, of which nothing is said. -/
def Obligations.BitTest : Prop :=
  ∀ (s : State) (b : BitVec 3),
    (∀ r, Gives [0xCB#8, 0b01#2 ++ b ++ r.code] (.bitR b r) s 8 (fun u t =>
      t = u.setF t.main.f ∧ t.flags = bitTested s.flags b (s.reg r) (s.reg r))) ∧
    Gives [0xCB#8, 0b01#2 ++ b ++ 0b110#3] (.bitHl b) s 12 (fun u t =>
      t = { u.setF t.main.f with draws := t.draws } ∧
      t.flags = { bitTested s.flags b (s.readByte s.hl) 0#8 with y := t.flags.y, x := t.flags.x }) ∧
    (∀ xy d, Gives [xy.prefixByte, 0xCB#8, d, 0b01#2 ++ b ++ 0b110#3] (.bitXyd b xy d) s 20 (fun u t =>
      t = u.setF t.main.f ∧
      t.flags = bitTested s.flags b (s.readByte (indexed s xy d))
        (BitVec.ofNat 8 ((indexed s xy d).toNat / 256)))) ∧
    (∀ xy d r, Gives [xy.prefixByte, 0xCB#8, d, 0b01#2 ++ b ++ r.code] (.bitXydDup b xy d r) s 20 (fun u t =>
      t = u.setF t.main.f ∧
      t.flags = bitTested s.flags b (s.readByte (indexed s xy d))
        (BitVec.ofNat 8 ((indexed s xy d).toNat / 256))))

/-- R313 to R316: RES and SET in their four forms. -/
def Obligations.ResSet : Prop :=
  ∀ s : State,
    BitForms 0b10#2 false s .resR .resHl .resXyd .resXydR ∧
    BitForms 0b11#2 true s .setR .setHl .setXyd .setXydR

/-! ### Jumps, calls and returns -/

/-- R331 to R337: the jumps, with the condition read from F (R330) and the cost of the outcome (R123). -/
def Obligations.Jumps : Prop :=
  ∀ s : State,
    (∀ nn, Gives [0xC3#8, loByte nn, hiByte nn] (.jpNn nn) s 10 (fun u t => t = { u with pc := nn })) ∧
    (∀ cc nn, Gives [0b11#2 ++ cc.code ++ 0b010#3, loByte nn, hiByte nn] (.jpCcNn cc nn) s 10 (fun u t =>
      t = if condition cc s.main.f then { u with pc := nn } else u)) ∧
    (∀ e, Gives [0x18#8, e] (.jrE e) s 12 (fun u t => t = { u with pc := relative u.pc e })) ∧
    (∀ cc e, let taken := condition (relCondition cc) s.main.f
      Gives [0b001#3 ++ cc.code ++ 0b000#3, e] (.jrCcE cc e) s (if taken then 12 else 7) (fun u t =>
        t = if taken then { u with pc := relative u.pc e } else u)) ∧
    Gives [0xE9#8] .jpHl s 4 (fun u t => t = { u with pc := s.hl }) ∧
    (∀ xy, Gives [xy.prefixByte, 0xE9#8] (.jpXy xy) s 8 (fun u t => t = { u with pc := s.xy xy })) ∧
    (∀ e, let b := BitVec.ofInt 8 ((s.main.b.toNat : Int) - 1)
      Gives [0x10#8, e] (.djnzE e) s (if b ≠ 0#8 then 13 else 8) (fun u t =>
        t = { u.setReg .b b with pc := if b ≠ 0#8 then relative u.pc e else u.pc }))

/-- R338, R339, R344: the calls push `PCn`; RST goes to `8 * t`. -/
def Obligations.Calls : Prop :=
  ∀ s : State,
    (∀ nn, Gives [0xCD#8, loByte nn, hiByte nn] (.callNn nn) s 17 (fun u t => t = { pushed u.pc u with pc := nn })) ∧
    (∀ cc nn, let taken := condition cc s.main.f
      Gives [0b11#2 ++ cc.code ++ 0b100#3, loByte nn, hiByte nn] (.callCcNn cc nn) s
        (if taken then 17 else 10) (fun u t =>
        t = if taken then { pushed u.pc u with pc := nn } else u)) ∧
    (∀ p, Gives [0b11#2 ++ p ++ 0b111#3] (.rstP p) s 11 (fun u t =>
      t = { pushed u.pc u with pc := BitVec.ofNat 16 (8 * p.toNat) }))

/-- R340 to R343: the returns; RETI and RETN copy IFF2 into IFF1, RET and RET cc leave the flip-flops (R410). -/
def Obligations.Returns : Prop :=
  ∀ s : State,
    let back := s.readWord s.sp
    Gives [0xC9#8] .ret s 10 (fun u t => t = { popped u with pc := back }) ∧
    (∀ cc, let taken := condition cc s.main.f
      Gives [0b11#2 ++ cc.code ++ 0b000#3] (.retCc cc) s (if taken then 11 else 5) (fun u t =>
        t = if taken then { popped u with pc := back } else u)) ∧
    Gives [0xED#8, 0x4D#8] .reti s 14 (fun u t => t = { popped u with pc := back, iff1 := s.iff2 }) ∧
    Gives [0xED#8, 0x45#8] .retn s 14 (fun u t => t = { popped u with pc := back, iff1 := s.iff2 }) ∧
    (∀ y, Gives [0xED#8, 0b01#2 ++ y ++ 0b101#3] (.retnDup y) s 14 (fun u t =>
      t = { popped u with pc := back, iff1 := s.iff2 }))

/-! ### Input and output -/

/-- R361 to R363 and R368 to R370: IN and OUT, with their ports (R360); where the answer of a
read stands (`Answers`, `inputs`) is the model's choice (log entry 5). -/
def Obligations.InOut : Prop :=
  ∀ s : State,
    (∀ n, Gives [0xDB#8, n] (.inAN n) s 11 (fun u t => ∃ v, Answers s (s.main.a ++ n) v ∧
      t = { u.setReg .a v with inputs := s.inputs.tail, draws := t.draws })) ∧
    (∀ r, Gives [0xED#8, 0b01#2 ++ r.code ++ 0b000#3] (.inRC r) s 12 (fun u t => ∃ v, Answers s s.bc v ∧
      t = { (u.setReg r v).setF t.main.f with inputs := s.inputs.tail, draws := t.draws } ∧
      t.flags = resultFlags v false (evenOnes v) false s.flags.c)) ∧
    Gives [0xED#8, 0x70#8] .inFC s 12 (fun u t => ∃ v, Answers s s.bc v ∧
      t = { u.setF t.main.f with inputs := s.inputs.tail, draws := t.draws } ∧
      t.flags = resultFlags v false (evenOnes v) false s.flags.c) ∧
    (∀ n, Gives [0xD3#8, n] (.outNA n) s 11 (fun u t =>
      t = { u with outHistory := s.outHistory ++ [(s.main.a ++ n, s.main.a)] })) ∧
    (∀ r, Gives [0xED#8, 0b01#2 ++ r.code ++ 0b001#3] (.outCR r) s 12 (fun u t =>
      t = { u with outHistory := s.outHistory ++ [(s.bc, s.reg r)] })) ∧
    Gives [0xED#8, 0x71#8] .outC0 s 12 (fun u t =>
      t = { u with outHistory := s.outHistory ++ [(s.bc, 0x00#8)] })

/-- R364 to R367, R371 to R374: one iteration of the block I/O instructions; a continuing one sets PC to `ia`,
costs 21, and draws H, PV, X and Y, of which nothing is said (log entry 3); where the answer of a read stands
(`Answers`, `inputs`) is the model's choice (log entry 5). -/
def Obligations.BlockIo : Prop :=
  ∀ s : State,
    let c := if s.main.b ≠ 1#8 then 21 else 16
    Gives [0xED#8, 0xA2#8] .ini s 16 (BlockInPost 1#16 1#8 false s) ∧
    Gives [0xED#8, 0xB2#8] .inir s c (BlockInPost 1#16 1#8 true s) ∧
    Gives [0xED#8, 0xAA#8] .ind s 16 (BlockInPost (-1#16) (-1#8) false s) ∧
    Gives [0xED#8, 0xBA#8] .indr s c (BlockInPost (-1#16) (-1#8) true s) ∧
    Gives [0xED#8, 0xA3#8] .outi s 16 (BlockOutPost 1#16 false s) ∧
    Gives [0xED#8, 0xB3#8] .otir s c (BlockOutPost 1#16 true s) ∧
    Gives [0xED#8, 0xAB#8] .outd s 16 (BlockOutPost (-1#16) false s) ∧
    Gives [0xED#8, 0xBB#8] .otdr s c (BlockOutPost (-1#16) true s)
end

