-- ==== Sys2Proof/Laws/Decode.lean ====
section
/-! SUPPORT. The fields of an opcode byte built from its fields, codes and their readings, and the bytes of a
word. -/

namespace Sys2Proof

@[simp] theorem opX_fields (x : BitVec 2) (y z : BitVec 3) : opX (x ++ y ++ z : BitVec (2 + 3 + 3)) = x := by
  revert x y z; decide +kernel

@[simp] theorem opY_fields (x : BitVec 2) (y z : BitVec 3) : opY (x ++ y ++ z : BitVec (2 + 3 + 3)) = y := by
  revert x y z; decide +kernel

@[simp] theorem opZ_fields (x : BitVec 2) (y z : BitVec 3) : opZ (x ++ y ++ z : BitVec (2 + 3 + 3)) = z := by
  revert x y z; decide +kernel

@[simp] theorem opX_pair (x : BitVec 2) (p : BitVec 2) (k : BitVec 4) :
    opX (x ++ p ++ k : BitVec (2 + 2 + 4)) = x := by
  revert x p k; decide +kernel

@[simp] theorem opP_pair (x : BitVec 2) (p : BitVec 2) (k : BitVec 4) :
    opP (x ++ p ++ k : BitVec (2 + 2 + 4)) = p := by
  revert x p k; decide +kernel

@[simp] theorem opZ_pair (x : BitVec 2) (p : BitVec 2) (k : BitVec 4) :
    opZ (x ++ p ++ k : BitVec (2 + 2 + 4)) = k.extractLsb' 0 3 := by
  revert x p k; decide +kernel

@[simp] theorem opQ_pair (x : BitVec 2) (p : BitVec 2) (k : BitVec 4) :
    opQ (x ++ p ++ k : BitVec (2 + 2 + 4)) = k.getLsbD 3 := by
  revert x p k; decide +kernel

@[simp] theorem opX_low (k : BitVec 5) (r : BitVec 3) : opX (k ++ r : BitVec (5 + 3)) = k.extractLsb' 3 2 := by
  revert k r; decide +kernel

@[simp] theorem opY_low (k : BitVec 5) (r : BitVec 3) : opY (k ++ r : BitVec (5 + 3)) = k.extractLsb' 0 3 := by
  revert k r; decide +kernel

@[simp] theorem opZ_low (k : BitVec 5) (r : BitVec 3) : opZ (k ++ r : BitVec (5 + 3)) = r := by
  revert k r; decide +kernel

@[simp] theorem Reg8.ofCode_code (r : Reg8) : Reg8.ofCode r.code = some r := by cases r <;> rfl
@[simp] theorem Reg8.ofCode_mem : Reg8.ofCode 6#3 = none := rfl
@[simp] theorem HReg.ofCode_code (r : HReg) : HReg.ofCode r.code = some r := by cases r <;> rfl
@[simp] theorem HReg.ofCode_mem : HReg.ofCode 6#3 = none := rfl
@[simp] theorem Half.ofCode_code (hf : Half) : Half.ofCode hf.code = some hf := by cases hf <;> rfl
@[simp] theorem Pair.ofCode_code (p : Pair) : Pair.ofCode p.code = p := by cases p <;> rfl
@[simp] theorem StackPair.ofCode_code (q : StackPair) : StackPair.ofCode q.code = q := by cases q <;> rfl
@[simp] theorem IndexPair.ofCode_code (p : IndexPair) : IndexPair.ofCode p.code = p := by cases p <;> rfl
@[simp] theorem Cond.ofCode_code (cc : Cond) : Cond.ofCode cc.code = cc := by cases cc <;> rfl
@[simp] theorem RelCond.ofCode_code (cc : RelCond) : RelCond.ofCode cc.code = cc := by cases cc <;> rfl

/-- A register code is read as the register whose code it is. -/
theorem Reg8.code_of_ofCode {k : BitVec 3} {r : Reg8} (h : Reg8.ofCode k = some r) : r.code = k := by
  revert h; revert k; cases r <;> decide

/-- Only code 110 is no register. -/
theorem Reg8.ofCode_eq_none {k : BitVec 3} : Reg8.ofCode k = none ↔ k = 6#3 := by
  revert k; decide

theorem joinBytes_toNat (a b : Byte) : (joinBytes a b).toNat = a.toNat * 256 + b.toNat := by
  have h := Nat.two_pow_add_eq_or_of_lt b.isLt a.toNat
  simp only [joinBytes, BitVec.toNat_append, Nat.shiftLeft_eq]
  rw [Nat.mul_comm, ← h, Nat.mul_comm]

theorem loByte_toNat (w : Word) : (loByte w).toNat = w.toNat % 256 := by
  simp [loByte, BitVec.extractLsb'_toNat]

theorem hiByte_toNat (w : Word) : (hiByte w).toNat = w.toNat / 256 := by
  have := w.isLt
  simp only [hiByte, BitVec.extractLsb'_toNat, Nat.shiftRight_eq_div_pow]
  omega

@[simp] theorem joinBytes_hi_lo (w : Word) : joinBytes (hiByte w) (loByte w) = w := by
  apply BitVec.eq_of_toNat_eq
  rw [joinBytes_toNat, hiByte_toNat, loByte_toNat]
  omega

@[simp] theorem loByte_join (a b : Byte) : loByte (joinBytes a b) = b := by
  apply BitVec.eq_of_toNat_eq
  have := b.isLt
  rw [loByte_toNat, joinBytes_toNat]
  omega

@[simp] theorem hiByte_join (a b : Byte) : hiByte (joinBytes a b) = a := by
  apply BitVec.eq_of_toNat_eq
  have := b.isLt
  rw [hiByte_toNat, joinBytes_toNat]
  omega

end Sys2Proof
end

