-- ==== Sys2Proof/Laws/State.lean ====
section
/-! SUPPORT. One lemma per field and update of the state: what each named update leaves in each field. -/

namespace Sys2Proof.Machine

variable (s : State)

/-! ### setReg -/

@[simp] theorem State.setReg_main (r : Reg8) (v : Byte) : (s.setReg r v).main = s.main.set r v := rfl
@[simp] theorem State.setReg_alt (r : Reg8) (v : Byte) : (s.setReg r v).alt = s.alt := rfl
@[simp] theorem State.setReg_ix (r : Reg8) (v : Byte) : (s.setReg r v).ix = s.ix := rfl
@[simp] theorem State.setReg_iy (r : Reg8) (v : Byte) : (s.setReg r v).iy = s.iy := rfl
@[simp] theorem State.setReg_sp (r : Reg8) (v : Byte) : (s.setReg r v).sp = s.sp := rfl
@[simp] theorem State.setReg_pc (r : Reg8) (v : Byte) : (s.setReg r v).pc = s.pc := rfl
@[simp] theorem State.setReg_regI (r : Reg8) (v : Byte) : (s.setReg r v).regI = s.regI := rfl
@[simp] theorem State.setReg_regR (r : Reg8) (v : Byte) : (s.setReg r v).regR = s.regR := rfl
@[simp] theorem State.setReg_iff1 (r : Reg8) (v : Byte) : (s.setReg r v).iff1 = s.iff1 := rfl
@[simp] theorem State.setReg_iff2 (r : Reg8) (v : Byte) : (s.setReg r v).iff2 = s.iff2 := rfl
@[simp] theorem State.setReg_im (r : Reg8) (v : Byte) : (s.setReg r v).im = s.im := rfl
@[simp] theorem State.setReg_halted (r : Reg8) (v : Byte) : (s.setReg r v).halted = s.halted := rfl
@[simp] theorem State.setReg_eiShadow (r : Reg8) (v : Byte) : (s.setReg r v).eiShadow = s.eiShadow := rfl
@[simp] theorem State.setReg_t (r : Reg8) (v : Byte) : (s.setReg r v).t = s.t := rfl
@[simp] theorem State.setReg_mem (r : Reg8) (v : Byte) : (s.setReg r v).mem = s.mem := rfl
@[simp] theorem State.setReg_romSize (r : Reg8) (v : Byte) : (s.setReg r v).romSize = s.romSize := rfl
@[simp] theorem State.setReg_videoChanged (r : Reg8) (v : Byte) : (s.setReg r v).videoChanged = s.videoChanged := rfl
@[simp] theorem State.setReg_outHistory (r : Reg8) (v : Byte) : (s.setReg r v).outHistory = s.outHistory := rfl
@[simp] theorem State.setReg_faultMark (r : Reg8) (v : Byte) : (s.setReg r v).faultMark = s.faultMark := rfl
@[simp] theorem State.setReg_refusedMark (r : Reg8) (v : Byte) : (s.setReg r v).refusedMark = s.refusedMark := rfl
@[simp] theorem State.setReg_events (r : Reg8) (v : Byte) : (s.setReg r v).events = s.events := rfl
@[simp] theorem State.setReg_inputs (r : Reg8) (v : Byte) : (s.setReg r v).inputs = s.inputs := rfl
@[simp] theorem State.setReg_draws (r : Reg8) (v : Byte) : (s.setReg r v).draws = s.draws := rfl

/-! ### setF -/

@[simp] theorem State.setF_alt (f : Byte) : (s.setF f).alt = s.alt := rfl
@[simp] theorem State.setF_ix (f : Byte) : (s.setF f).ix = s.ix := rfl
@[simp] theorem State.setF_iy (f : Byte) : (s.setF f).iy = s.iy := rfl
@[simp] theorem State.setF_sp (f : Byte) : (s.setF f).sp = s.sp := rfl
@[simp] theorem State.setF_pc (f : Byte) : (s.setF f).pc = s.pc := rfl
@[simp] theorem State.setF_regI (f : Byte) : (s.setF f).regI = s.regI := rfl
@[simp] theorem State.setF_regR (f : Byte) : (s.setF f).regR = s.regR := rfl
@[simp] theorem State.setF_iff1 (f : Byte) : (s.setF f).iff1 = s.iff1 := rfl
@[simp] theorem State.setF_iff2 (f : Byte) : (s.setF f).iff2 = s.iff2 := rfl
@[simp] theorem State.setF_im (f : Byte) : (s.setF f).im = s.im := rfl
@[simp] theorem State.setF_halted (f : Byte) : (s.setF f).halted = s.halted := rfl
@[simp] theorem State.setF_eiShadow (f : Byte) : (s.setF f).eiShadow = s.eiShadow := rfl
@[simp] theorem State.setF_t (f : Byte) : (s.setF f).t = s.t := rfl
@[simp] theorem State.setF_mem (f : Byte) : (s.setF f).mem = s.mem := rfl
@[simp] theorem State.setF_romSize (f : Byte) : (s.setF f).romSize = s.romSize := rfl
@[simp] theorem State.setF_videoChanged (f : Byte) : (s.setF f).videoChanged = s.videoChanged := rfl
@[simp] theorem State.setF_outHistory (f : Byte) : (s.setF f).outHistory = s.outHistory := rfl
@[simp] theorem State.setF_faultMark (f : Byte) : (s.setF f).faultMark = s.faultMark := rfl
@[simp] theorem State.setF_refusedMark (f : Byte) : (s.setF f).refusedMark = s.refusedMark := rfl
@[simp] theorem State.setF_events (f : Byte) : (s.setF f).events = s.events := rfl
@[simp] theorem State.setF_inputs (f : Byte) : (s.setF f).inputs = s.inputs := rfl
@[simp] theorem State.setF_draws (f : Byte) : (s.setF f).draws = s.draws := rfl

/-! ### setBc -/

@[simp] theorem State.setBc_alt (v : Word) : (s.setBc v).alt = s.alt := rfl
@[simp] theorem State.setBc_ix (v : Word) : (s.setBc v).ix = s.ix := rfl
@[simp] theorem State.setBc_iy (v : Word) : (s.setBc v).iy = s.iy := rfl
@[simp] theorem State.setBc_sp (v : Word) : (s.setBc v).sp = s.sp := rfl
@[simp] theorem State.setBc_pc (v : Word) : (s.setBc v).pc = s.pc := rfl
@[simp] theorem State.setBc_regI (v : Word) : (s.setBc v).regI = s.regI := rfl
@[simp] theorem State.setBc_regR (v : Word) : (s.setBc v).regR = s.regR := rfl
@[simp] theorem State.setBc_iff1 (v : Word) : (s.setBc v).iff1 = s.iff1 := rfl
@[simp] theorem State.setBc_iff2 (v : Word) : (s.setBc v).iff2 = s.iff2 := rfl
@[simp] theorem State.setBc_im (v : Word) : (s.setBc v).im = s.im := rfl
@[simp] theorem State.setBc_halted (v : Word) : (s.setBc v).halted = s.halted := rfl
@[simp] theorem State.setBc_eiShadow (v : Word) : (s.setBc v).eiShadow = s.eiShadow := rfl
@[simp] theorem State.setBc_t (v : Word) : (s.setBc v).t = s.t := rfl
@[simp] theorem State.setBc_mem (v : Word) : (s.setBc v).mem = s.mem := rfl
@[simp] theorem State.setBc_romSize (v : Word) : (s.setBc v).romSize = s.romSize := rfl
@[simp] theorem State.setBc_videoChanged (v : Word) : (s.setBc v).videoChanged = s.videoChanged := rfl
@[simp] theorem State.setBc_outHistory (v : Word) : (s.setBc v).outHistory = s.outHistory := rfl
@[simp] theorem State.setBc_faultMark (v : Word) : (s.setBc v).faultMark = s.faultMark := rfl
@[simp] theorem State.setBc_refusedMark (v : Word) : (s.setBc v).refusedMark = s.refusedMark := rfl
@[simp] theorem State.setBc_events (v : Word) : (s.setBc v).events = s.events := rfl
@[simp] theorem State.setBc_inputs (v : Word) : (s.setBc v).inputs = s.inputs := rfl
@[simp] theorem State.setBc_draws (v : Word) : (s.setBc v).draws = s.draws := rfl

/-! ### setDe -/

@[simp] theorem State.setDe_alt (v : Word) : (s.setDe v).alt = s.alt := rfl
@[simp] theorem State.setDe_ix (v : Word) : (s.setDe v).ix = s.ix := rfl
@[simp] theorem State.setDe_iy (v : Word) : (s.setDe v).iy = s.iy := rfl
@[simp] theorem State.setDe_sp (v : Word) : (s.setDe v).sp = s.sp := rfl
@[simp] theorem State.setDe_pc (v : Word) : (s.setDe v).pc = s.pc := rfl
@[simp] theorem State.setDe_regI (v : Word) : (s.setDe v).regI = s.regI := rfl
@[simp] theorem State.setDe_regR (v : Word) : (s.setDe v).regR = s.regR := rfl
@[simp] theorem State.setDe_iff1 (v : Word) : (s.setDe v).iff1 = s.iff1 := rfl
@[simp] theorem State.setDe_iff2 (v : Word) : (s.setDe v).iff2 = s.iff2 := rfl
@[simp] theorem State.setDe_im (v : Word) : (s.setDe v).im = s.im := rfl
@[simp] theorem State.setDe_halted (v : Word) : (s.setDe v).halted = s.halted := rfl
@[simp] theorem State.setDe_eiShadow (v : Word) : (s.setDe v).eiShadow = s.eiShadow := rfl
@[simp] theorem State.setDe_t (v : Word) : (s.setDe v).t = s.t := rfl
@[simp] theorem State.setDe_mem (v : Word) : (s.setDe v).mem = s.mem := rfl
@[simp] theorem State.setDe_romSize (v : Word) : (s.setDe v).romSize = s.romSize := rfl
@[simp] theorem State.setDe_videoChanged (v : Word) : (s.setDe v).videoChanged = s.videoChanged := rfl
@[simp] theorem State.setDe_outHistory (v : Word) : (s.setDe v).outHistory = s.outHistory := rfl
@[simp] theorem State.setDe_faultMark (v : Word) : (s.setDe v).faultMark = s.faultMark := rfl
@[simp] theorem State.setDe_refusedMark (v : Word) : (s.setDe v).refusedMark = s.refusedMark := rfl
@[simp] theorem State.setDe_events (v : Word) : (s.setDe v).events = s.events := rfl
@[simp] theorem State.setDe_inputs (v : Word) : (s.setDe v).inputs = s.inputs := rfl
@[simp] theorem State.setDe_draws (v : Word) : (s.setDe v).draws = s.draws := rfl

/-! ### setHl -/

@[simp] theorem State.setHl_alt (v : Word) : (s.setHl v).alt = s.alt := rfl
@[simp] theorem State.setHl_ix (v : Word) : (s.setHl v).ix = s.ix := rfl
@[simp] theorem State.setHl_iy (v : Word) : (s.setHl v).iy = s.iy := rfl
@[simp] theorem State.setHl_sp (v : Word) : (s.setHl v).sp = s.sp := rfl
@[simp] theorem State.setHl_pc (v : Word) : (s.setHl v).pc = s.pc := rfl
@[simp] theorem State.setHl_regI (v : Word) : (s.setHl v).regI = s.regI := rfl
@[simp] theorem State.setHl_regR (v : Word) : (s.setHl v).regR = s.regR := rfl
@[simp] theorem State.setHl_iff1 (v : Word) : (s.setHl v).iff1 = s.iff1 := rfl
@[simp] theorem State.setHl_iff2 (v : Word) : (s.setHl v).iff2 = s.iff2 := rfl
@[simp] theorem State.setHl_im (v : Word) : (s.setHl v).im = s.im := rfl
@[simp] theorem State.setHl_halted (v : Word) : (s.setHl v).halted = s.halted := rfl
@[simp] theorem State.setHl_eiShadow (v : Word) : (s.setHl v).eiShadow = s.eiShadow := rfl
@[simp] theorem State.setHl_t (v : Word) : (s.setHl v).t = s.t := rfl
@[simp] theorem State.setHl_mem (v : Word) : (s.setHl v).mem = s.mem := rfl
@[simp] theorem State.setHl_romSize (v : Word) : (s.setHl v).romSize = s.romSize := rfl
@[simp] theorem State.setHl_videoChanged (v : Word) : (s.setHl v).videoChanged = s.videoChanged := rfl
@[simp] theorem State.setHl_outHistory (v : Word) : (s.setHl v).outHistory = s.outHistory := rfl
@[simp] theorem State.setHl_faultMark (v : Word) : (s.setHl v).faultMark = s.faultMark := rfl
@[simp] theorem State.setHl_refusedMark (v : Word) : (s.setHl v).refusedMark = s.refusedMark := rfl
@[simp] theorem State.setHl_events (v : Word) : (s.setHl v).events = s.events := rfl
@[simp] theorem State.setHl_inputs (v : Word) : (s.setHl v).inputs = s.inputs := rfl
@[simp] theorem State.setHl_draws (v : Word) : (s.setHl v).draws = s.draws := rfl

/-! ### setAf -/

@[simp] theorem State.setAf_alt (v : Word) : (s.setAf v).alt = s.alt := rfl
@[simp] theorem State.setAf_ix (v : Word) : (s.setAf v).ix = s.ix := rfl
@[simp] theorem State.setAf_iy (v : Word) : (s.setAf v).iy = s.iy := rfl
@[simp] theorem State.setAf_sp (v : Word) : (s.setAf v).sp = s.sp := rfl
@[simp] theorem State.setAf_pc (v : Word) : (s.setAf v).pc = s.pc := rfl
@[simp] theorem State.setAf_regI (v : Word) : (s.setAf v).regI = s.regI := rfl
@[simp] theorem State.setAf_regR (v : Word) : (s.setAf v).regR = s.regR := rfl
@[simp] theorem State.setAf_iff1 (v : Word) : (s.setAf v).iff1 = s.iff1 := rfl
@[simp] theorem State.setAf_iff2 (v : Word) : (s.setAf v).iff2 = s.iff2 := rfl
@[simp] theorem State.setAf_im (v : Word) : (s.setAf v).im = s.im := rfl
@[simp] theorem State.setAf_halted (v : Word) : (s.setAf v).halted = s.halted := rfl
@[simp] theorem State.setAf_eiShadow (v : Word) : (s.setAf v).eiShadow = s.eiShadow := rfl
@[simp] theorem State.setAf_t (v : Word) : (s.setAf v).t = s.t := rfl
@[simp] theorem State.setAf_mem (v : Word) : (s.setAf v).mem = s.mem := rfl
@[simp] theorem State.setAf_romSize (v : Word) : (s.setAf v).romSize = s.romSize := rfl
@[simp] theorem State.setAf_videoChanged (v : Word) : (s.setAf v).videoChanged = s.videoChanged := rfl
@[simp] theorem State.setAf_outHistory (v : Word) : (s.setAf v).outHistory = s.outHistory := rfl
@[simp] theorem State.setAf_faultMark (v : Word) : (s.setAf v).faultMark = s.faultMark := rfl
@[simp] theorem State.setAf_refusedMark (v : Word) : (s.setAf v).refusedMark = s.refusedMark := rfl
@[simp] theorem State.setAf_events (v : Word) : (s.setAf v).events = s.events := rfl
@[simp] theorem State.setAf_inputs (v : Word) : (s.setAf v).inputs = s.inputs := rfl
@[simp] theorem State.setAf_draws (v : Word) : (s.setAf v).draws = s.draws := rfl

/-! ### setSp -/

@[simp] theorem State.setSp_main (v : Word) : (s.setSp v).main = s.main := rfl
@[simp] theorem State.setSp_alt (v : Word) : (s.setSp v).alt = s.alt := rfl
@[simp] theorem State.setSp_ix (v : Word) : (s.setSp v).ix = s.ix := rfl
@[simp] theorem State.setSp_iy (v : Word) : (s.setSp v).iy = s.iy := rfl
@[simp] theorem State.setSp_sp (v : Word) : (s.setSp v).sp = v := rfl
@[simp] theorem State.setSp_pc (v : Word) : (s.setSp v).pc = s.pc := rfl
@[simp] theorem State.setSp_regI (v : Word) : (s.setSp v).regI = s.regI := rfl
@[simp] theorem State.setSp_regR (v : Word) : (s.setSp v).regR = s.regR := rfl
@[simp] theorem State.setSp_iff1 (v : Word) : (s.setSp v).iff1 = s.iff1 := rfl
@[simp] theorem State.setSp_iff2 (v : Word) : (s.setSp v).iff2 = s.iff2 := rfl
@[simp] theorem State.setSp_im (v : Word) : (s.setSp v).im = s.im := rfl
@[simp] theorem State.setSp_halted (v : Word) : (s.setSp v).halted = s.halted := rfl
@[simp] theorem State.setSp_eiShadow (v : Word) : (s.setSp v).eiShadow = s.eiShadow := rfl
@[simp] theorem State.setSp_t (v : Word) : (s.setSp v).t = s.t := rfl
@[simp] theorem State.setSp_mem (v : Word) : (s.setSp v).mem = s.mem := rfl
@[simp] theorem State.setSp_romSize (v : Word) : (s.setSp v).romSize = s.romSize := rfl
@[simp] theorem State.setSp_videoChanged (v : Word) : (s.setSp v).videoChanged = s.videoChanged := rfl
@[simp] theorem State.setSp_outHistory (v : Word) : (s.setSp v).outHistory = s.outHistory := rfl
@[simp] theorem State.setSp_faultMark (v : Word) : (s.setSp v).faultMark = s.faultMark := rfl
@[simp] theorem State.setSp_refusedMark (v : Word) : (s.setSp v).refusedMark = s.refusedMark := rfl
@[simp] theorem State.setSp_events (v : Word) : (s.setSp v).events = s.events := rfl
@[simp] theorem State.setSp_inputs (v : Word) : (s.setSp v).inputs = s.inputs := rfl
@[simp] theorem State.setSp_draws (v : Word) : (s.setSp v).draws = s.draws := rfl

/-! ### setPc -/

@[simp] theorem State.setPc_main (v : Word) : (s.setPc v).main = s.main := rfl
@[simp] theorem State.setPc_alt (v : Word) : (s.setPc v).alt = s.alt := rfl
@[simp] theorem State.setPc_ix (v : Word) : (s.setPc v).ix = s.ix := rfl
@[simp] theorem State.setPc_iy (v : Word) : (s.setPc v).iy = s.iy := rfl
@[simp] theorem State.setPc_sp (v : Word) : (s.setPc v).sp = s.sp := rfl
@[simp] theorem State.setPc_pc (v : Word) : (s.setPc v).pc = v := rfl
@[simp] theorem State.setPc_regI (v : Word) : (s.setPc v).regI = s.regI := rfl
@[simp] theorem State.setPc_regR (v : Word) : (s.setPc v).regR = s.regR := rfl
@[simp] theorem State.setPc_iff1 (v : Word) : (s.setPc v).iff1 = s.iff1 := rfl
@[simp] theorem State.setPc_iff2 (v : Word) : (s.setPc v).iff2 = s.iff2 := rfl
@[simp] theorem State.setPc_im (v : Word) : (s.setPc v).im = s.im := rfl
@[simp] theorem State.setPc_halted (v : Word) : (s.setPc v).halted = s.halted := rfl
@[simp] theorem State.setPc_eiShadow (v : Word) : (s.setPc v).eiShadow = s.eiShadow := rfl
@[simp] theorem State.setPc_t (v : Word) : (s.setPc v).t = s.t := rfl
@[simp] theorem State.setPc_mem (v : Word) : (s.setPc v).mem = s.mem := rfl
@[simp] theorem State.setPc_romSize (v : Word) : (s.setPc v).romSize = s.romSize := rfl
@[simp] theorem State.setPc_videoChanged (v : Word) : (s.setPc v).videoChanged = s.videoChanged := rfl
@[simp] theorem State.setPc_outHistory (v : Word) : (s.setPc v).outHistory = s.outHistory := rfl
@[simp] theorem State.setPc_faultMark (v : Word) : (s.setPc v).faultMark = s.faultMark := rfl
@[simp] theorem State.setPc_refusedMark (v : Word) : (s.setPc v).refusedMark = s.refusedMark := rfl
@[simp] theorem State.setPc_events (v : Word) : (s.setPc v).events = s.events := rfl
@[simp] theorem State.setPc_inputs (v : Word) : (s.setPc v).inputs = s.inputs := rfl
@[simp] theorem State.setPc_draws (v : Word) : (s.setPc v).draws = s.draws := rfl

/-! ### setIm -/

@[simp] theorem State.setIm_main (m : IntMode) : (s.setIm m).main = s.main := rfl
@[simp] theorem State.setIm_alt (m : IntMode) : (s.setIm m).alt = s.alt := rfl
@[simp] theorem State.setIm_ix (m : IntMode) : (s.setIm m).ix = s.ix := rfl
@[simp] theorem State.setIm_iy (m : IntMode) : (s.setIm m).iy = s.iy := rfl
@[simp] theorem State.setIm_sp (m : IntMode) : (s.setIm m).sp = s.sp := rfl
@[simp] theorem State.setIm_pc (m : IntMode) : (s.setIm m).pc = s.pc := rfl
@[simp] theorem State.setIm_regI (m : IntMode) : (s.setIm m).regI = s.regI := rfl
@[simp] theorem State.setIm_regR (m : IntMode) : (s.setIm m).regR = s.regR := rfl
@[simp] theorem State.setIm_iff1 (m : IntMode) : (s.setIm m).iff1 = s.iff1 := rfl
@[simp] theorem State.setIm_iff2 (m : IntMode) : (s.setIm m).iff2 = s.iff2 := rfl
@[simp] theorem State.setIm_im (m : IntMode) : (s.setIm m).im = m := rfl
@[simp] theorem State.setIm_halted (m : IntMode) : (s.setIm m).halted = s.halted := rfl
@[simp] theorem State.setIm_eiShadow (m : IntMode) : (s.setIm m).eiShadow = s.eiShadow := rfl
@[simp] theorem State.setIm_t (m : IntMode) : (s.setIm m).t = s.t := rfl
@[simp] theorem State.setIm_mem (m : IntMode) : (s.setIm m).mem = s.mem := rfl
@[simp] theorem State.setIm_romSize (m : IntMode) : (s.setIm m).romSize = s.romSize := rfl
@[simp] theorem State.setIm_videoChanged (m : IntMode) : (s.setIm m).videoChanged = s.videoChanged := rfl
@[simp] theorem State.setIm_outHistory (m : IntMode) : (s.setIm m).outHistory = s.outHistory := rfl
@[simp] theorem State.setIm_faultMark (m : IntMode) : (s.setIm m).faultMark = s.faultMark := rfl
@[simp] theorem State.setIm_refusedMark (m : IntMode) : (s.setIm m).refusedMark = s.refusedMark := rfl
@[simp] theorem State.setIm_events (m : IntMode) : (s.setIm m).events = s.events := rfl
@[simp] theorem State.setIm_inputs (m : IntMode) : (s.setIm m).inputs = s.inputs := rfl
@[simp] theorem State.setIm_draws (m : IntMode) : (s.setIm m).draws = s.draws := rfl

/-! ### begin -/

@[simp] theorem State.begin_main (fmt : Format) (n : Nat) : (s.begin fmt n).main = s.main := rfl
@[simp] theorem State.begin_alt (fmt : Format) (n : Nat) : (s.begin fmt n).alt = s.alt := rfl
@[simp] theorem State.begin_ix (fmt : Format) (n : Nat) : (s.begin fmt n).ix = s.ix := rfl
@[simp] theorem State.begin_iy (fmt : Format) (n : Nat) : (s.begin fmt n).iy = s.iy := rfl
@[simp] theorem State.begin_sp (fmt : Format) (n : Nat) : (s.begin fmt n).sp = s.sp := rfl
@[simp] theorem State.begin_pc (fmt : Format) (n : Nat) : (s.begin fmt n).pc = s.pc + BitVec.ofNat 16 fmt.length := rfl
@[simp] theorem State.begin_regI (fmt : Format) (n : Nat) : (s.begin fmt n).regI = s.regI := rfl
@[simp] theorem State.begin_regR (fmt : Format) (n : Nat) : (s.begin fmt n).regR = bumpR fmt.m1 s.regR := rfl
@[simp] theorem State.begin_iff1 (fmt : Format) (n : Nat) : (s.begin fmt n).iff1 = s.iff1 := rfl
@[simp] theorem State.begin_iff2 (fmt : Format) (n : Nat) : (s.begin fmt n).iff2 = s.iff2 := rfl
@[simp] theorem State.begin_im (fmt : Format) (n : Nat) : (s.begin fmt n).im = s.im := rfl
@[simp] theorem State.begin_halted (fmt : Format) (n : Nat) : (s.begin fmt n).halted = s.halted := rfl
@[simp] theorem State.begin_eiShadow (fmt : Format) (n : Nat) : (s.begin fmt n).eiShadow = false := rfl
@[simp] theorem State.begin_t (fmt : Format) (n : Nat) : (s.begin fmt n).t = s.t + n := rfl
@[simp] theorem State.begin_mem (fmt : Format) (n : Nat) : (s.begin fmt n).mem = s.mem := rfl
@[simp] theorem State.begin_romSize (fmt : Format) (n : Nat) : (s.begin fmt n).romSize = s.romSize := rfl
@[simp] theorem State.begin_videoChanged (fmt : Format) (n : Nat) : (s.begin fmt n).videoChanged = s.videoChanged := rfl
@[simp] theorem State.begin_outHistory (fmt : Format) (n : Nat) : (s.begin fmt n).outHistory = s.outHistory := rfl
@[simp] theorem State.begin_faultMark (fmt : Format) (n : Nat) : (s.begin fmt n).faultMark = s.faultMark := rfl
@[simp] theorem State.begin_refusedMark (fmt : Format) (n : Nat) : (s.begin fmt n).refusedMark = s.refusedMark := rfl
@[simp] theorem State.begin_events (fmt : Format) (n : Nat) : (s.begin fmt n).events = s.events := rfl
@[simp] theorem State.begin_inputs (fmt : Format) (n : Nat) : (s.begin fmt n).inputs = s.inputs := rfl
@[simp] theorem State.begin_draws (fmt : Format) (n : Nat) : (s.begin fmt n).draws = s.draws := rfl

/-! ### absorb -/

@[simp] theorem State.absorb_main (k : Nat) : (s.absorb k).main = s.main := rfl
@[simp] theorem State.absorb_alt (k : Nat) : (s.absorb k).alt = s.alt := rfl
@[simp] theorem State.absorb_ix (k : Nat) : (s.absorb k).ix = s.ix := rfl
@[simp] theorem State.absorb_iy (k : Nat) : (s.absorb k).iy = s.iy := rfl
@[simp] theorem State.absorb_sp (k : Nat) : (s.absorb k).sp = s.sp := rfl
@[simp] theorem State.absorb_pc (k : Nat) : (s.absorb k).pc = s.pc + BitVec.ofNat 16 k := rfl
@[simp] theorem State.absorb_regI (k : Nat) : (s.absorb k).regI = s.regI := rfl
@[simp] theorem State.absorb_regR (k : Nat) : (s.absorb k).regR = bumpR k s.regR := rfl
@[simp] theorem State.absorb_iff1 (k : Nat) : (s.absorb k).iff1 = s.iff1 := rfl
@[simp] theorem State.absorb_iff2 (k : Nat) : (s.absorb k).iff2 = s.iff2 := rfl
@[simp] theorem State.absorb_im (k : Nat) : (s.absorb k).im = s.im := rfl
@[simp] theorem State.absorb_halted (k : Nat) : (s.absorb k).halted = s.halted := rfl
@[simp] theorem State.absorb_eiShadow (k : Nat) : (s.absorb k).eiShadow = s.eiShadow := rfl
@[simp] theorem State.absorb_t (k : Nat) : (s.absorb k).t = s.t + 4 * k := rfl
@[simp] theorem State.absorb_mem (k : Nat) : (s.absorb k).mem = s.mem := rfl
@[simp] theorem State.absorb_romSize (k : Nat) : (s.absorb k).romSize = s.romSize := rfl
@[simp] theorem State.absorb_videoChanged (k : Nat) : (s.absorb k).videoChanged = s.videoChanged := rfl
@[simp] theorem State.absorb_outHistory (k : Nat) : (s.absorb k).outHistory = s.outHistory := rfl
@[simp] theorem State.absorb_faultMark (k : Nat) : (s.absorb k).faultMark = s.faultMark := rfl
@[simp] theorem State.absorb_refusedMark (k : Nat) : (s.absorb k).refusedMark = s.refusedMark := rfl
@[simp] theorem State.absorb_events (k : Nat) : (s.absorb k).events = s.events := rfl
@[simp] theorem State.absorb_inputs (k : Nat) : (s.absorb k).inputs = s.inputs := rfl
@[simp] theorem State.absorb_draws (k : Nat) : (s.absorb k).draws = s.draws := rfl

/-! ### ioWrite -/

@[simp] theorem State.ioWrite_main (p : Word) (v : Byte) : (s.ioWrite p v).main = s.main := rfl
@[simp] theorem State.ioWrite_alt (p : Word) (v : Byte) : (s.ioWrite p v).alt = s.alt := rfl
@[simp] theorem State.ioWrite_ix (p : Word) (v : Byte) : (s.ioWrite p v).ix = s.ix := rfl
@[simp] theorem State.ioWrite_iy (p : Word) (v : Byte) : (s.ioWrite p v).iy = s.iy := rfl
@[simp] theorem State.ioWrite_sp (p : Word) (v : Byte) : (s.ioWrite p v).sp = s.sp := rfl
@[simp] theorem State.ioWrite_pc (p : Word) (v : Byte) : (s.ioWrite p v).pc = s.pc := rfl
@[simp] theorem State.ioWrite_regI (p : Word) (v : Byte) : (s.ioWrite p v).regI = s.regI := rfl
@[simp] theorem State.ioWrite_regR (p : Word) (v : Byte) : (s.ioWrite p v).regR = s.regR := rfl
@[simp] theorem State.ioWrite_iff1 (p : Word) (v : Byte) : (s.ioWrite p v).iff1 = s.iff1 := rfl
@[simp] theorem State.ioWrite_iff2 (p : Word) (v : Byte) : (s.ioWrite p v).iff2 = s.iff2 := rfl
@[simp] theorem State.ioWrite_im (p : Word) (v : Byte) : (s.ioWrite p v).im = s.im := rfl
@[simp] theorem State.ioWrite_halted (p : Word) (v : Byte) : (s.ioWrite p v).halted = s.halted := rfl
@[simp] theorem State.ioWrite_eiShadow (p : Word) (v : Byte) : (s.ioWrite p v).eiShadow = s.eiShadow := rfl
@[simp] theorem State.ioWrite_t (p : Word) (v : Byte) : (s.ioWrite p v).t = s.t := rfl
@[simp] theorem State.ioWrite_mem (p : Word) (v : Byte) : (s.ioWrite p v).mem = s.mem := rfl
@[simp] theorem State.ioWrite_romSize (p : Word) (v : Byte) : (s.ioWrite p v).romSize = s.romSize := rfl
@[simp] theorem State.ioWrite_videoChanged (p : Word) (v : Byte) : (s.ioWrite p v).videoChanged = s.videoChanged := rfl
@[simp] theorem State.ioWrite_outHistory (p : Word) (v : Byte) : (s.ioWrite p v).outHistory = s.outHistory ++ [(p, v)] := rfl
@[simp] theorem State.ioWrite_faultMark (p : Word) (v : Byte) : (s.ioWrite p v).faultMark = s.faultMark := rfl
@[simp] theorem State.ioWrite_refusedMark (p : Word) (v : Byte) : (s.ioWrite p v).refusedMark = s.refusedMark := rfl
@[simp] theorem State.ioWrite_events (p : Word) (v : Byte) : (s.ioWrite p v).events = s.events := rfl
@[simp] theorem State.ioWrite_inputs (p : Word) (v : Byte) : (s.ioWrite p v).inputs = s.inputs := rfl
@[simp] theorem State.ioWrite_draws (p : Word) (v : Byte) : (s.ioWrite p v).draws = s.draws := rfl

/-! ### setXy -/

@[simp] theorem State.setXy_main (x : Index) (v : Word) : (s.setXy x v).main = s.main := by cases x <;> rfl
@[simp] theorem State.setXy_alt (x : Index) (v : Word) : (s.setXy x v).alt = s.alt := by cases x <;> rfl
@[simp] theorem State.setXy_sp (x : Index) (v : Word) : (s.setXy x v).sp = s.sp := by cases x <;> rfl
@[simp] theorem State.setXy_pc (x : Index) (v : Word) : (s.setXy x v).pc = s.pc := by cases x <;> rfl
@[simp] theorem State.setXy_regI (x : Index) (v : Word) : (s.setXy x v).regI = s.regI := by cases x <;> rfl
@[simp] theorem State.setXy_regR (x : Index) (v : Word) : (s.setXy x v).regR = s.regR := by cases x <;> rfl
@[simp] theorem State.setXy_iff1 (x : Index) (v : Word) : (s.setXy x v).iff1 = s.iff1 := by cases x <;> rfl
@[simp] theorem State.setXy_iff2 (x : Index) (v : Word) : (s.setXy x v).iff2 = s.iff2 := by cases x <;> rfl
@[simp] theorem State.setXy_im (x : Index) (v : Word) : (s.setXy x v).im = s.im := by cases x <;> rfl
@[simp] theorem State.setXy_halted (x : Index) (v : Word) : (s.setXy x v).halted = s.halted := by cases x <;> rfl
@[simp] theorem State.setXy_eiShadow (x : Index) (v : Word) : (s.setXy x v).eiShadow = s.eiShadow := by cases x <;> rfl
@[simp] theorem State.setXy_t (x : Index) (v : Word) : (s.setXy x v).t = s.t := by cases x <;> rfl
@[simp] theorem State.setXy_mem (x : Index) (v : Word) : (s.setXy x v).mem = s.mem := by cases x <;> rfl
@[simp] theorem State.setXy_romSize (x : Index) (v : Word) : (s.setXy x v).romSize = s.romSize := by cases x <;> rfl
@[simp] theorem State.setXy_videoChanged (x : Index) (v : Word) : (s.setXy x v).videoChanged = s.videoChanged := by cases x <;> rfl
@[simp] theorem State.setXy_outHistory (x : Index) (v : Word) : (s.setXy x v).outHistory = s.outHistory := by cases x <;> rfl
@[simp] theorem State.setXy_faultMark (x : Index) (v : Word) : (s.setXy x v).faultMark = s.faultMark := by cases x <;> rfl
@[simp] theorem State.setXy_refusedMark (x : Index) (v : Word) : (s.setXy x v).refusedMark = s.refusedMark := by cases x <;> rfl
@[simp] theorem State.setXy_events (x : Index) (v : Word) : (s.setXy x v).events = s.events := by cases x <;> rfl
@[simp] theorem State.setXy_inputs (x : Index) (v : Word) : (s.setXy x v).inputs = s.inputs := by cases x <;> rfl
@[simp] theorem State.setXy_draws (x : Index) (v : Word) : (s.setXy x v).draws = s.draws := by cases x <;> rfl

/-! ### setHalf -/

@[simp] theorem State.setHalf_main (x : Index) (hf : Half) (v : Byte) : (s.setHalf x hf v).main = s.main := by cases hf <;> cases x <;> rfl
@[simp] theorem State.setHalf_alt (x : Index) (hf : Half) (v : Byte) : (s.setHalf x hf v).alt = s.alt := by cases hf <;> cases x <;> rfl
@[simp] theorem State.setHalf_sp (x : Index) (hf : Half) (v : Byte) : (s.setHalf x hf v).sp = s.sp := by cases hf <;> cases x <;> rfl
@[simp] theorem State.setHalf_pc (x : Index) (hf : Half) (v : Byte) : (s.setHalf x hf v).pc = s.pc := by cases hf <;> cases x <;> rfl
@[simp] theorem State.setHalf_regI (x : Index) (hf : Half) (v : Byte) : (s.setHalf x hf v).regI = s.regI := by cases hf <;> cases x <;> rfl
@[simp] theorem State.setHalf_regR (x : Index) (hf : Half) (v : Byte) : (s.setHalf x hf v).regR = s.regR := by cases hf <;> cases x <;> rfl
@[simp] theorem State.setHalf_iff1 (x : Index) (hf : Half) (v : Byte) : (s.setHalf x hf v).iff1 = s.iff1 := by cases hf <;> cases x <;> rfl
@[simp] theorem State.setHalf_iff2 (x : Index) (hf : Half) (v : Byte) : (s.setHalf x hf v).iff2 = s.iff2 := by cases hf <;> cases x <;> rfl
@[simp] theorem State.setHalf_im (x : Index) (hf : Half) (v : Byte) : (s.setHalf x hf v).im = s.im := by cases hf <;> cases x <;> rfl
@[simp] theorem State.setHalf_halted (x : Index) (hf : Half) (v : Byte) : (s.setHalf x hf v).halted = s.halted := by cases hf <;> cases x <;> rfl
@[simp] theorem State.setHalf_eiShadow (x : Index) (hf : Half) (v : Byte) : (s.setHalf x hf v).eiShadow = s.eiShadow := by cases hf <;> cases x <;> rfl
@[simp] theorem State.setHalf_t (x : Index) (hf : Half) (v : Byte) : (s.setHalf x hf v).t = s.t := by cases hf <;> cases x <;> rfl
@[simp] theorem State.setHalf_mem (x : Index) (hf : Half) (v : Byte) : (s.setHalf x hf v).mem = s.mem := by cases hf <;> cases x <;> rfl
@[simp] theorem State.setHalf_romSize (x : Index) (hf : Half) (v : Byte) : (s.setHalf x hf v).romSize = s.romSize := by cases hf <;> cases x <;> rfl
@[simp] theorem State.setHalf_videoChanged (x : Index) (hf : Half) (v : Byte) : (s.setHalf x hf v).videoChanged = s.videoChanged := by cases hf <;> cases x <;> rfl
@[simp] theorem State.setHalf_outHistory (x : Index) (hf : Half) (v : Byte) : (s.setHalf x hf v).outHistory = s.outHistory := by cases hf <;> cases x <;> rfl
@[simp] theorem State.setHalf_faultMark (x : Index) (hf : Half) (v : Byte) : (s.setHalf x hf v).faultMark = s.faultMark := by cases hf <;> cases x <;> rfl
@[simp] theorem State.setHalf_refusedMark (x : Index) (hf : Half) (v : Byte) : (s.setHalf x hf v).refusedMark = s.refusedMark := by cases hf <;> cases x <;> rfl
@[simp] theorem State.setHalf_events (x : Index) (hf : Half) (v : Byte) : (s.setHalf x hf v).events = s.events := by cases hf <;> cases x <;> rfl
@[simp] theorem State.setHalf_inputs (x : Index) (hf : Half) (v : Byte) : (s.setHalf x hf v).inputs = s.inputs := by cases hf <;> cases x <;> rfl
@[simp] theorem State.setHalf_draws (x : Index) (hf : Half) (v : Byte) : (s.setHalf x hf v).draws = s.draws := by cases hf <;> cases x <;> rfl

/-! ### setHreg -/

@[simp] theorem State.setHreg_alt (x : Index) (r : HReg) (v : Byte) : (s.setHreg x r v).alt = s.alt := by cases r <;> cases x <;> rfl
@[simp] theorem State.setHreg_sp (x : Index) (r : HReg) (v : Byte) : (s.setHreg x r v).sp = s.sp := by cases r <;> cases x <;> rfl
@[simp] theorem State.setHreg_pc (x : Index) (r : HReg) (v : Byte) : (s.setHreg x r v).pc = s.pc := by cases r <;> cases x <;> rfl
@[simp] theorem State.setHreg_regI (x : Index) (r : HReg) (v : Byte) : (s.setHreg x r v).regI = s.regI := by cases r <;> cases x <;> rfl
@[simp] theorem State.setHreg_regR (x : Index) (r : HReg) (v : Byte) : (s.setHreg x r v).regR = s.regR := by cases r <;> cases x <;> rfl
@[simp] theorem State.setHreg_iff1 (x : Index) (r : HReg) (v : Byte) : (s.setHreg x r v).iff1 = s.iff1 := by cases r <;> cases x <;> rfl
@[simp] theorem State.setHreg_iff2 (x : Index) (r : HReg) (v : Byte) : (s.setHreg x r v).iff2 = s.iff2 := by cases r <;> cases x <;> rfl
@[simp] theorem State.setHreg_im (x : Index) (r : HReg) (v : Byte) : (s.setHreg x r v).im = s.im := by cases r <;> cases x <;> rfl
@[simp] theorem State.setHreg_halted (x : Index) (r : HReg) (v : Byte) : (s.setHreg x r v).halted = s.halted := by cases r <;> cases x <;> rfl
@[simp] theorem State.setHreg_eiShadow (x : Index) (r : HReg) (v : Byte) : (s.setHreg x r v).eiShadow = s.eiShadow := by cases r <;> cases x <;> rfl
@[simp] theorem State.setHreg_t (x : Index) (r : HReg) (v : Byte) : (s.setHreg x r v).t = s.t := by cases r <;> cases x <;> rfl
@[simp] theorem State.setHreg_mem (x : Index) (r : HReg) (v : Byte) : (s.setHreg x r v).mem = s.mem := by cases r <;> cases x <;> rfl
@[simp] theorem State.setHreg_romSize (x : Index) (r : HReg) (v : Byte) : (s.setHreg x r v).romSize = s.romSize := by cases r <;> cases x <;> rfl
@[simp] theorem State.setHreg_videoChanged (x : Index) (r : HReg) (v : Byte) : (s.setHreg x r v).videoChanged = s.videoChanged := by cases r <;> cases x <;> rfl
@[simp] theorem State.setHreg_outHistory (x : Index) (r : HReg) (v : Byte) : (s.setHreg x r v).outHistory = s.outHistory := by cases r <;> cases x <;> rfl
@[simp] theorem State.setHreg_faultMark (x : Index) (r : HReg) (v : Byte) : (s.setHreg x r v).faultMark = s.faultMark := by cases r <;> cases x <;> rfl
@[simp] theorem State.setHreg_refusedMark (x : Index) (r : HReg) (v : Byte) : (s.setHreg x r v).refusedMark = s.refusedMark := by cases r <;> cases x <;> rfl
@[simp] theorem State.setHreg_events (x : Index) (r : HReg) (v : Byte) : (s.setHreg x r v).events = s.events := by cases r <;> cases x <;> rfl
@[simp] theorem State.setHreg_inputs (x : Index) (r : HReg) (v : Byte) : (s.setHreg x r v).inputs = s.inputs := by cases r <;> cases x <;> rfl
@[simp] theorem State.setHreg_draws (x : Index) (r : HReg) (v : Byte) : (s.setHreg x r v).draws = s.draws := by cases r <;> cases x <;> rfl

/-! ### setPair -/

@[simp] theorem State.setPair_alt (p : Pair) (v : Word) : (s.setPair p v).alt = s.alt := by cases p <;> rfl
@[simp] theorem State.setPair_ix (p : Pair) (v : Word) : (s.setPair p v).ix = s.ix := by cases p <;> rfl
@[simp] theorem State.setPair_iy (p : Pair) (v : Word) : (s.setPair p v).iy = s.iy := by cases p <;> rfl
@[simp] theorem State.setPair_pc (p : Pair) (v : Word) : (s.setPair p v).pc = s.pc := by cases p <;> rfl
@[simp] theorem State.setPair_regI (p : Pair) (v : Word) : (s.setPair p v).regI = s.regI := by cases p <;> rfl
@[simp] theorem State.setPair_regR (p : Pair) (v : Word) : (s.setPair p v).regR = s.regR := by cases p <;> rfl
@[simp] theorem State.setPair_iff1 (p : Pair) (v : Word) : (s.setPair p v).iff1 = s.iff1 := by cases p <;> rfl
@[simp] theorem State.setPair_iff2 (p : Pair) (v : Word) : (s.setPair p v).iff2 = s.iff2 := by cases p <;> rfl
@[simp] theorem State.setPair_im (p : Pair) (v : Word) : (s.setPair p v).im = s.im := by cases p <;> rfl
@[simp] theorem State.setPair_halted (p : Pair) (v : Word) : (s.setPair p v).halted = s.halted := by cases p <;> rfl
@[simp] theorem State.setPair_eiShadow (p : Pair) (v : Word) : (s.setPair p v).eiShadow = s.eiShadow := by cases p <;> rfl
@[simp] theorem State.setPair_t (p : Pair) (v : Word) : (s.setPair p v).t = s.t := by cases p <;> rfl
@[simp] theorem State.setPair_mem (p : Pair) (v : Word) : (s.setPair p v).mem = s.mem := by cases p <;> rfl
@[simp] theorem State.setPair_romSize (p : Pair) (v : Word) : (s.setPair p v).romSize = s.romSize := by cases p <;> rfl
@[simp] theorem State.setPair_videoChanged (p : Pair) (v : Word) : (s.setPair p v).videoChanged = s.videoChanged := by cases p <;> rfl
@[simp] theorem State.setPair_outHistory (p : Pair) (v : Word) : (s.setPair p v).outHistory = s.outHistory := by cases p <;> rfl
@[simp] theorem State.setPair_faultMark (p : Pair) (v : Word) : (s.setPair p v).faultMark = s.faultMark := by cases p <;> rfl
@[simp] theorem State.setPair_refusedMark (p : Pair) (v : Word) : (s.setPair p v).refusedMark = s.refusedMark := by cases p <;> rfl
@[simp] theorem State.setPair_events (p : Pair) (v : Word) : (s.setPair p v).events = s.events := by cases p <;> rfl
@[simp] theorem State.setPair_inputs (p : Pair) (v : Word) : (s.setPair p v).inputs = s.inputs := by cases p <;> rfl
@[simp] theorem State.setPair_draws (p : Pair) (v : Word) : (s.setPair p v).draws = s.draws := by cases p <;> rfl

/-! ### setStackPair -/

@[simp] theorem State.setStackPair_alt (q : StackPair) (v : Word) : (s.setStackPair q v).alt = s.alt := by cases q <;> rfl
@[simp] theorem State.setStackPair_ix (q : StackPair) (v : Word) : (s.setStackPair q v).ix = s.ix := by cases q <;> rfl
@[simp] theorem State.setStackPair_iy (q : StackPair) (v : Word) : (s.setStackPair q v).iy = s.iy := by cases q <;> rfl
@[simp] theorem State.setStackPair_sp (q : StackPair) (v : Word) : (s.setStackPair q v).sp = s.sp := by cases q <;> rfl
@[simp] theorem State.setStackPair_pc (q : StackPair) (v : Word) : (s.setStackPair q v).pc = s.pc := by cases q <;> rfl
@[simp] theorem State.setStackPair_regI (q : StackPair) (v : Word) : (s.setStackPair q v).regI = s.regI := by cases q <;> rfl
@[simp] theorem State.setStackPair_regR (q : StackPair) (v : Word) : (s.setStackPair q v).regR = s.regR := by cases q <;> rfl
@[simp] theorem State.setStackPair_iff1 (q : StackPair) (v : Word) : (s.setStackPair q v).iff1 = s.iff1 := by cases q <;> rfl
@[simp] theorem State.setStackPair_iff2 (q : StackPair) (v : Word) : (s.setStackPair q v).iff2 = s.iff2 := by cases q <;> rfl
@[simp] theorem State.setStackPair_im (q : StackPair) (v : Word) : (s.setStackPair q v).im = s.im := by cases q <;> rfl
@[simp] theorem State.setStackPair_halted (q : StackPair) (v : Word) : (s.setStackPair q v).halted = s.halted := by cases q <;> rfl
@[simp] theorem State.setStackPair_eiShadow (q : StackPair) (v : Word) : (s.setStackPair q v).eiShadow = s.eiShadow := by cases q <;> rfl
@[simp] theorem State.setStackPair_t (q : StackPair) (v : Word) : (s.setStackPair q v).t = s.t := by cases q <;> rfl
@[simp] theorem State.setStackPair_mem (q : StackPair) (v : Word) : (s.setStackPair q v).mem = s.mem := by cases q <;> rfl
@[simp] theorem State.setStackPair_romSize (q : StackPair) (v : Word) : (s.setStackPair q v).romSize = s.romSize := by cases q <;> rfl
@[simp] theorem State.setStackPair_videoChanged (q : StackPair) (v : Word) : (s.setStackPair q v).videoChanged = s.videoChanged := by cases q <;> rfl
@[simp] theorem State.setStackPair_outHistory (q : StackPair) (v : Word) : (s.setStackPair q v).outHistory = s.outHistory := by cases q <;> rfl
@[simp] theorem State.setStackPair_faultMark (q : StackPair) (v : Word) : (s.setStackPair q v).faultMark = s.faultMark := by cases q <;> rfl
@[simp] theorem State.setStackPair_refusedMark (q : StackPair) (v : Word) : (s.setStackPair q v).refusedMark = s.refusedMark := by cases q <;> rfl
@[simp] theorem State.setStackPair_events (q : StackPair) (v : Word) : (s.setStackPair q v).events = s.events := by cases q <;> rfl
@[simp] theorem State.setStackPair_inputs (q : StackPair) (v : Word) : (s.setStackPair q v).inputs = s.inputs := by cases q <;> rfl
@[simp] theorem State.setStackPair_draws (q : StackPair) (v : Word) : (s.setStackPair q v).draws = s.draws := by cases q <;> rfl

/-! ### setFlags -/

@[simp] theorem State.setFlags_alt (fl u d : Flags) : (s.setFlags fl u d).alt = s.alt := by unfold State.setFlags; split <;> rfl
@[simp] theorem State.setFlags_ix (fl u d : Flags) : (s.setFlags fl u d).ix = s.ix := by unfold State.setFlags; split <;> rfl
@[simp] theorem State.setFlags_iy (fl u d : Flags) : (s.setFlags fl u d).iy = s.iy := by unfold State.setFlags; split <;> rfl
@[simp] theorem State.setFlags_sp (fl u d : Flags) : (s.setFlags fl u d).sp = s.sp := by unfold State.setFlags; split <;> rfl
@[simp] theorem State.setFlags_pc (fl u d : Flags) : (s.setFlags fl u d).pc = s.pc := by unfold State.setFlags; split <;> rfl
@[simp] theorem State.setFlags_regI (fl u d : Flags) : (s.setFlags fl u d).regI = s.regI := by unfold State.setFlags; split <;> rfl
@[simp] theorem State.setFlags_regR (fl u d : Flags) : (s.setFlags fl u d).regR = s.regR := by unfold State.setFlags; split <;> rfl
@[simp] theorem State.setFlags_iff1 (fl u d : Flags) : (s.setFlags fl u d).iff1 = s.iff1 := by unfold State.setFlags; split <;> rfl
@[simp] theorem State.setFlags_iff2 (fl u d : Flags) : (s.setFlags fl u d).iff2 = s.iff2 := by unfold State.setFlags; split <;> rfl
@[simp] theorem State.setFlags_im (fl u d : Flags) : (s.setFlags fl u d).im = s.im := by unfold State.setFlags; split <;> rfl
@[simp] theorem State.setFlags_halted (fl u d : Flags) : (s.setFlags fl u d).halted = s.halted := by unfold State.setFlags; split <;> rfl
@[simp] theorem State.setFlags_eiShadow (fl u d : Flags) : (s.setFlags fl u d).eiShadow = s.eiShadow := by unfold State.setFlags; split <;> rfl
@[simp] theorem State.setFlags_t (fl u d : Flags) : (s.setFlags fl u d).t = s.t := by unfold State.setFlags; split <;> rfl
@[simp] theorem State.setFlags_mem (fl u d : Flags) : (s.setFlags fl u d).mem = s.mem := by unfold State.setFlags; split <;> rfl
@[simp] theorem State.setFlags_romSize (fl u d : Flags) : (s.setFlags fl u d).romSize = s.romSize := by unfold State.setFlags; split <;> rfl
@[simp] theorem State.setFlags_videoChanged (fl u d : Flags) : (s.setFlags fl u d).videoChanged = s.videoChanged := by unfold State.setFlags; split <;> rfl
@[simp] theorem State.setFlags_outHistory (fl u d : Flags) : (s.setFlags fl u d).outHistory = s.outHistory := by unfold State.setFlags; split <;> rfl
@[simp] theorem State.setFlags_faultMark (fl u d : Flags) : (s.setFlags fl u d).faultMark = s.faultMark := by unfold State.setFlags; split <;> rfl
@[simp] theorem State.setFlags_refusedMark (fl u d : Flags) : (s.setFlags fl u d).refusedMark = s.refusedMark := by unfold State.setFlags; split <;> rfl
@[simp] theorem State.setFlags_events (fl u d : Flags) : (s.setFlags fl u d).events = s.events := by unfold State.setFlags; split <;> rfl
@[simp] theorem State.setFlags_inputs (fl u d : Flags) : (s.setFlags fl u d).inputs = s.inputs := by unfold State.setFlags; split <;> rfl

/-! ### writeByte -/

@[simp] theorem State.writeByte_main (a : Word) (v : Byte) : (s.writeByte a v).main = s.main := by unfold State.writeByte; split <;> [rfl; (split <;> rfl)]
@[simp] theorem State.writeByte_alt (a : Word) (v : Byte) : (s.writeByte a v).alt = s.alt := by unfold State.writeByte; split <;> [rfl; (split <;> rfl)]
@[simp] theorem State.writeByte_ix (a : Word) (v : Byte) : (s.writeByte a v).ix = s.ix := by unfold State.writeByte; split <;> [rfl; (split <;> rfl)]
@[simp] theorem State.writeByte_iy (a : Word) (v : Byte) : (s.writeByte a v).iy = s.iy := by unfold State.writeByte; split <;> [rfl; (split <;> rfl)]
@[simp] theorem State.writeByte_sp (a : Word) (v : Byte) : (s.writeByte a v).sp = s.sp := by unfold State.writeByte; split <;> [rfl; (split <;> rfl)]
@[simp] theorem State.writeByte_pc (a : Word) (v : Byte) : (s.writeByte a v).pc = s.pc := by unfold State.writeByte; split <;> [rfl; (split <;> rfl)]
@[simp] theorem State.writeByte_regI (a : Word) (v : Byte) : (s.writeByte a v).regI = s.regI := by unfold State.writeByte; split <;> [rfl; (split <;> rfl)]
@[simp] theorem State.writeByte_regR (a : Word) (v : Byte) : (s.writeByte a v).regR = s.regR := by unfold State.writeByte; split <;> [rfl; (split <;> rfl)]
@[simp] theorem State.writeByte_iff1 (a : Word) (v : Byte) : (s.writeByte a v).iff1 = s.iff1 := by unfold State.writeByte; split <;> [rfl; (split <;> rfl)]
@[simp] theorem State.writeByte_iff2 (a : Word) (v : Byte) : (s.writeByte a v).iff2 = s.iff2 := by unfold State.writeByte; split <;> [rfl; (split <;> rfl)]
@[simp] theorem State.writeByte_im (a : Word) (v : Byte) : (s.writeByte a v).im = s.im := by unfold State.writeByte; split <;> [rfl; (split <;> rfl)]
@[simp] theorem State.writeByte_halted (a : Word) (v : Byte) : (s.writeByte a v).halted = s.halted := by unfold State.writeByte; split <;> [rfl; (split <;> rfl)]
@[simp] theorem State.writeByte_eiShadow (a : Word) (v : Byte) : (s.writeByte a v).eiShadow = s.eiShadow := by unfold State.writeByte; split <;> [rfl; (split <;> rfl)]
@[simp] theorem State.writeByte_t (a : Word) (v : Byte) : (s.writeByte a v).t = s.t := by unfold State.writeByte; split <;> [rfl; (split <;> rfl)]
@[simp] theorem State.writeByte_romSize (a : Word) (v : Byte) : (s.writeByte a v).romSize = s.romSize := by unfold State.writeByte; split <;> [rfl; (split <;> rfl)]
@[simp] theorem State.writeByte_outHistory (a : Word) (v : Byte) : (s.writeByte a v).outHistory = s.outHistory := by unfold State.writeByte; split <;> [rfl; (split <;> rfl)]
@[simp] theorem State.writeByte_faultMark (a : Word) (v : Byte) : (s.writeByte a v).faultMark = s.faultMark := by unfold State.writeByte; split <;> [rfl; (split <;> rfl)]
@[simp] theorem State.writeByte_refusedMark (a : Word) (v : Byte) : (s.writeByte a v).refusedMark = s.refusedMark := by unfold State.writeByte; split <;> [rfl; (split <;> rfl)]
@[simp] theorem State.writeByte_events (a : Word) (v : Byte) : (s.writeByte a v).events = s.events := by unfold State.writeByte; split <;> [rfl; (split <;> rfl)]
@[simp] theorem State.writeByte_inputs (a : Word) (v : Byte) : (s.writeByte a v).inputs = s.inputs := by unfold State.writeByte; split <;> [rfl; (split <;> rfl)]
@[simp] theorem State.writeByte_draws (a : Word) (v : Byte) : (s.writeByte a v).draws = s.draws := by unfold State.writeByte; split <;> [rfl; (split <;> rfl)]

/-! ### writeWord -/

@[simp] theorem State.writeWord_main (a v : Word) : (s.writeWord a v).main = s.main := by simp [State.writeWord]
@[simp] theorem State.writeWord_alt (a v : Word) : (s.writeWord a v).alt = s.alt := by simp [State.writeWord]
@[simp] theorem State.writeWord_ix (a v : Word) : (s.writeWord a v).ix = s.ix := by simp [State.writeWord]
@[simp] theorem State.writeWord_iy (a v : Word) : (s.writeWord a v).iy = s.iy := by simp [State.writeWord]
@[simp] theorem State.writeWord_sp (a v : Word) : (s.writeWord a v).sp = s.sp := by simp [State.writeWord]
@[simp] theorem State.writeWord_pc (a v : Word) : (s.writeWord a v).pc = s.pc := by simp [State.writeWord]
@[simp] theorem State.writeWord_regI (a v : Word) : (s.writeWord a v).regI = s.regI := by simp [State.writeWord]
@[simp] theorem State.writeWord_regR (a v : Word) : (s.writeWord a v).regR = s.regR := by simp [State.writeWord]
@[simp] theorem State.writeWord_iff1 (a v : Word) : (s.writeWord a v).iff1 = s.iff1 := by simp [State.writeWord]
@[simp] theorem State.writeWord_iff2 (a v : Word) : (s.writeWord a v).iff2 = s.iff2 := by simp [State.writeWord]
@[simp] theorem State.writeWord_im (a v : Word) : (s.writeWord a v).im = s.im := by simp [State.writeWord]
@[simp] theorem State.writeWord_halted (a v : Word) : (s.writeWord a v).halted = s.halted := by simp [State.writeWord]
@[simp] theorem State.writeWord_eiShadow (a v : Word) : (s.writeWord a v).eiShadow = s.eiShadow := by simp [State.writeWord]
@[simp] theorem State.writeWord_t (a v : Word) : (s.writeWord a v).t = s.t := by simp [State.writeWord]
@[simp] theorem State.writeWord_romSize (a v : Word) : (s.writeWord a v).romSize = s.romSize := by simp [State.writeWord]
@[simp] theorem State.writeWord_outHistory (a v : Word) : (s.writeWord a v).outHistory = s.outHistory := by simp [State.writeWord]
@[simp] theorem State.writeWord_faultMark (a v : Word) : (s.writeWord a v).faultMark = s.faultMark := by simp [State.writeWord]
@[simp] theorem State.writeWord_refusedMark (a v : Word) : (s.writeWord a v).refusedMark = s.refusedMark := by simp [State.writeWord]
@[simp] theorem State.writeWord_events (a v : Word) : (s.writeWord a v).events = s.events := by simp [State.writeWord]
@[simp] theorem State.writeWord_inputs (a v : Word) : (s.writeWord a v).inputs = s.inputs := by simp [State.writeWord]
@[simp] theorem State.writeWord_draws (a v : Word) : (s.writeWord a v).draws = s.draws := by simp [State.writeWord]

/-! ### push -/

@[simp] theorem State.push_main (v : Word) : (s.push v).main = s.main := by simp [State.push]
@[simp] theorem State.push_alt (v : Word) : (s.push v).alt = s.alt := by simp [State.push]
@[simp] theorem State.push_ix (v : Word) : (s.push v).ix = s.ix := by simp [State.push]
@[simp] theorem State.push_iy (v : Word) : (s.push v).iy = s.iy := by simp [State.push]
@[simp] theorem State.push_sp (v : Word) : (s.push v).sp = s.sp - 2#16 := by simp [State.push]
@[simp] theorem State.push_pc (v : Word) : (s.push v).pc = s.pc := by simp [State.push]
@[simp] theorem State.push_regI (v : Word) : (s.push v).regI = s.regI := by simp [State.push]
@[simp] theorem State.push_regR (v : Word) : (s.push v).regR = s.regR := by simp [State.push]
@[simp] theorem State.push_iff1 (v : Word) : (s.push v).iff1 = s.iff1 := by simp [State.push]
@[simp] theorem State.push_iff2 (v : Word) : (s.push v).iff2 = s.iff2 := by simp [State.push]
@[simp] theorem State.push_im (v : Word) : (s.push v).im = s.im := by simp [State.push]
@[simp] theorem State.push_halted (v : Word) : (s.push v).halted = s.halted := by simp [State.push]
@[simp] theorem State.push_eiShadow (v : Word) : (s.push v).eiShadow = s.eiShadow := by simp [State.push]
@[simp] theorem State.push_t (v : Word) : (s.push v).t = s.t := by simp [State.push]
@[simp] theorem State.push_romSize (v : Word) : (s.push v).romSize = s.romSize := by simp [State.push]
@[simp] theorem State.push_outHistory (v : Word) : (s.push v).outHistory = s.outHistory := by simp [State.push]
@[simp] theorem State.push_faultMark (v : Word) : (s.push v).faultMark = s.faultMark := by simp [State.push]
@[simp] theorem State.push_refusedMark (v : Word) : (s.push v).refusedMark = s.refusedMark := by simp [State.push]
@[simp] theorem State.push_events (v : Word) : (s.push v).events = s.events := by simp [State.push]
@[simp] theorem State.push_inputs (v : Word) : (s.push v).inputs = s.inputs := by simp [State.push]
@[simp] theorem State.push_draws (v : Word) : (s.push v).draws = s.draws := by simp [State.push]

/-! ### ioTaken -/

@[simp] theorem State.ioTaken_main : (s.ioTaken).main = s.main := by unfold State.ioTaken; split <;> rfl
@[simp] theorem State.ioTaken_alt : (s.ioTaken).alt = s.alt := by unfold State.ioTaken; split <;> rfl
@[simp] theorem State.ioTaken_ix : (s.ioTaken).ix = s.ix := by unfold State.ioTaken; split <;> rfl
@[simp] theorem State.ioTaken_iy : (s.ioTaken).iy = s.iy := by unfold State.ioTaken; split <;> rfl
@[simp] theorem State.ioTaken_sp : (s.ioTaken).sp = s.sp := by unfold State.ioTaken; split <;> rfl
@[simp] theorem State.ioTaken_pc : (s.ioTaken).pc = s.pc := by unfold State.ioTaken; split <;> rfl
@[simp] theorem State.ioTaken_regI : (s.ioTaken).regI = s.regI := by unfold State.ioTaken; split <;> rfl
@[simp] theorem State.ioTaken_regR : (s.ioTaken).regR = s.regR := by unfold State.ioTaken; split <;> rfl
@[simp] theorem State.ioTaken_iff1 : (s.ioTaken).iff1 = s.iff1 := by unfold State.ioTaken; split <;> rfl
@[simp] theorem State.ioTaken_iff2 : (s.ioTaken).iff2 = s.iff2 := by unfold State.ioTaken; split <;> rfl
@[simp] theorem State.ioTaken_im : (s.ioTaken).im = s.im := by unfold State.ioTaken; split <;> rfl
@[simp] theorem State.ioTaken_halted : (s.ioTaken).halted = s.halted := by unfold State.ioTaken; split <;> rfl
@[simp] theorem State.ioTaken_eiShadow : (s.ioTaken).eiShadow = s.eiShadow := by unfold State.ioTaken; split <;> rfl
@[simp] theorem State.ioTaken_t : (s.ioTaken).t = s.t := by unfold State.ioTaken; split <;> rfl
@[simp] theorem State.ioTaken_mem : (s.ioTaken).mem = s.mem := by unfold State.ioTaken; split <;> rfl
@[simp] theorem State.ioTaken_romSize : (s.ioTaken).romSize = s.romSize := by unfold State.ioTaken; split <;> rfl
@[simp] theorem State.ioTaken_videoChanged : (s.ioTaken).videoChanged = s.videoChanged := by unfold State.ioTaken; split <;> rfl
@[simp] theorem State.ioTaken_outHistory : (s.ioTaken).outHistory = s.outHistory := by unfold State.ioTaken; split <;> rfl
@[simp] theorem State.ioTaken_faultMark : (s.ioTaken).faultMark = s.faultMark := by unfold State.ioTaken; split <;> rfl
@[simp] theorem State.ioTaken_refusedMark : (s.ioTaken).refusedMark = s.refusedMark := by unfold State.ioTaken; split <;> rfl
@[simp] theorem State.ioTaken_events : (s.ioTaken).events = s.events := by unfold State.ioTaken; split <;> rfl

/-! ### repeatAt -/

@[simp] theorem State.repeatAt_main (ia : Word) (g : Bool) : (s.repeatAt ia g).main = s.main := by cases g <;> rfl
@[simp] theorem State.repeatAt_alt (ia : Word) (g : Bool) : (s.repeatAt ia g).alt = s.alt := by cases g <;> rfl
@[simp] theorem State.repeatAt_ix (ia : Word) (g : Bool) : (s.repeatAt ia g).ix = s.ix := by cases g <;> rfl
@[simp] theorem State.repeatAt_iy (ia : Word) (g : Bool) : (s.repeatAt ia g).iy = s.iy := by cases g <;> rfl
@[simp] theorem State.repeatAt_sp (ia : Word) (g : Bool) : (s.repeatAt ia g).sp = s.sp := by cases g <;> rfl
@[simp] theorem State.repeatAt_pc (ia : Word) (g : Bool) : (s.repeatAt ia g).pc = if g then ia else s.pc := by cases g <;> rfl
@[simp] theorem State.repeatAt_regI (ia : Word) (g : Bool) : (s.repeatAt ia g).regI = s.regI := by cases g <;> rfl
@[simp] theorem State.repeatAt_regR (ia : Word) (g : Bool) : (s.repeatAt ia g).regR = s.regR := by cases g <;> rfl
@[simp] theorem State.repeatAt_iff1 (ia : Word) (g : Bool) : (s.repeatAt ia g).iff1 = s.iff1 := by cases g <;> rfl
@[simp] theorem State.repeatAt_iff2 (ia : Word) (g : Bool) : (s.repeatAt ia g).iff2 = s.iff2 := by cases g <;> rfl
@[simp] theorem State.repeatAt_im (ia : Word) (g : Bool) : (s.repeatAt ia g).im = s.im := by cases g <;> rfl
@[simp] theorem State.repeatAt_halted (ia : Word) (g : Bool) : (s.repeatAt ia g).halted = s.halted := by cases g <;> rfl
@[simp] theorem State.repeatAt_eiShadow (ia : Word) (g : Bool) : (s.repeatAt ia g).eiShadow = s.eiShadow := by cases g <;> rfl
@[simp] theorem State.repeatAt_t (ia : Word) (g : Bool) : (s.repeatAt ia g).t = s.t := by cases g <;> rfl
@[simp] theorem State.repeatAt_mem (ia : Word) (g : Bool) : (s.repeatAt ia g).mem = s.mem := by cases g <;> rfl
@[simp] theorem State.repeatAt_romSize (ia : Word) (g : Bool) : (s.repeatAt ia g).romSize = s.romSize := by cases g <;> rfl
@[simp] theorem State.repeatAt_videoChanged (ia : Word) (g : Bool) : (s.repeatAt ia g).videoChanged = s.videoChanged := by cases g <;> rfl
@[simp] theorem State.repeatAt_outHistory (ia : Word) (g : Bool) : (s.repeatAt ia g).outHistory = s.outHistory := by cases g <;> rfl
@[simp] theorem State.repeatAt_faultMark (ia : Word) (g : Bool) : (s.repeatAt ia g).faultMark = s.faultMark := by cases g <;> rfl
@[simp] theorem State.repeatAt_refusedMark (ia : Word) (g : Bool) : (s.repeatAt ia g).refusedMark = s.refusedMark := by cases g <;> rfl
@[simp] theorem State.repeatAt_events (ia : Word) (g : Bool) : (s.repeatAt ia g).events = s.events := by cases g <;> rfl
@[simp] theorem State.repeatAt_inputs (ia : Word) (g : Bool) : (s.repeatAt ia g).inputs = s.inputs := by cases g <;> rfl
@[simp] theorem State.repeatAt_draws (ia : Word) (g : Bool) : (s.repeatAt ia g).draws = s.draws := by cases g <;> rfl

/-! ### Registers of the main set after an update of one part of it -/

@[simp] theorem State.setF_main_a (f : Byte) : (s.setF f).main.a = s.main.a := rfl
@[simp] theorem State.setF_main_f (f : Byte) : (s.setF f).main.f = f := rfl
@[simp] theorem State.setF_main_b (f : Byte) : (s.setF f).main.b = s.main.b := rfl
@[simp] theorem State.setF_main_c (f : Byte) : (s.setF f).main.c = s.main.c := rfl
@[simp] theorem State.setF_main_d (f : Byte) : (s.setF f).main.d = s.main.d := rfl
@[simp] theorem State.setF_main_e (f : Byte) : (s.setF f).main.e = s.main.e := rfl
@[simp] theorem State.setF_main_h (f : Byte) : (s.setF f).main.h = s.main.h := rfl
@[simp] theorem State.setF_main_l (f : Byte) : (s.setF f).main.l = s.main.l := rfl

@[simp] theorem State.setBc_main_a (v : Word) : (s.setBc v).main.a = s.main.a := rfl
@[simp] theorem State.setBc_main_f (v : Word) : (s.setBc v).main.f = s.main.f := rfl
@[simp] theorem State.setBc_main_b (v : Word) : (s.setBc v).main.b = hiByte v := rfl
@[simp] theorem State.setBc_main_c (v : Word) : (s.setBc v).main.c = loByte v := rfl
@[simp] theorem State.setBc_main_d (v : Word) : (s.setBc v).main.d = s.main.d := rfl
@[simp] theorem State.setBc_main_e (v : Word) : (s.setBc v).main.e = s.main.e := rfl
@[simp] theorem State.setBc_main_h (v : Word) : (s.setBc v).main.h = s.main.h := rfl
@[simp] theorem State.setBc_main_l (v : Word) : (s.setBc v).main.l = s.main.l := rfl

@[simp] theorem State.setDe_main_a (v : Word) : (s.setDe v).main.a = s.main.a := rfl
@[simp] theorem State.setDe_main_f (v : Word) : (s.setDe v).main.f = s.main.f := rfl
@[simp] theorem State.setDe_main_b (v : Word) : (s.setDe v).main.b = s.main.b := rfl
@[simp] theorem State.setDe_main_c (v : Word) : (s.setDe v).main.c = s.main.c := rfl
@[simp] theorem State.setDe_main_d (v : Word) : (s.setDe v).main.d = hiByte v := rfl
@[simp] theorem State.setDe_main_e (v : Word) : (s.setDe v).main.e = loByte v := rfl
@[simp] theorem State.setDe_main_h (v : Word) : (s.setDe v).main.h = s.main.h := rfl
@[simp] theorem State.setDe_main_l (v : Word) : (s.setDe v).main.l = s.main.l := rfl

@[simp] theorem State.setHl_main_a (v : Word) : (s.setHl v).main.a = s.main.a := rfl
@[simp] theorem State.setHl_main_f (v : Word) : (s.setHl v).main.f = s.main.f := rfl
@[simp] theorem State.setHl_main_b (v : Word) : (s.setHl v).main.b = s.main.b := rfl
@[simp] theorem State.setHl_main_c (v : Word) : (s.setHl v).main.c = s.main.c := rfl
@[simp] theorem State.setHl_main_d (v : Word) : (s.setHl v).main.d = s.main.d := rfl
@[simp] theorem State.setHl_main_e (v : Word) : (s.setHl v).main.e = s.main.e := rfl
@[simp] theorem State.setHl_main_h (v : Word) : (s.setHl v).main.h = hiByte v := rfl
@[simp] theorem State.setHl_main_l (v : Word) : (s.setHl v).main.l = loByte v := rfl

@[simp] theorem State.setAf_main_a (v : Word) : (s.setAf v).main.a = hiByte v := rfl
@[simp] theorem State.setAf_main_f (v : Word) : (s.setAf v).main.f = loByte v := rfl
@[simp] theorem State.setAf_main_b (v : Word) : (s.setAf v).main.b = s.main.b := rfl
@[simp] theorem State.setAf_main_c (v : Word) : (s.setAf v).main.c = s.main.c := rfl
@[simp] theorem State.setAf_main_d (v : Word) : (s.setAf v).main.d = s.main.d := rfl
@[simp] theorem State.setAf_main_e (v : Word) : (s.setAf v).main.e = s.main.e := rfl
@[simp] theorem State.setAf_main_h (v : Word) : (s.setAf v).main.h = s.main.h := rfl
@[simp] theorem State.setAf_main_l (v : Word) : (s.setAf v).main.l = s.main.l := rfl

@[simp] theorem State.setFlags_main_a (fl u d : Flags) : (s.setFlags fl u d).main.a = s.main.a := by unfold State.setFlags; split <;> rfl
@[simp] theorem State.setFlags_main_b (fl u d : Flags) : (s.setFlags fl u d).main.b = s.main.b := by unfold State.setFlags; split <;> rfl
@[simp] theorem State.setFlags_main_c (fl u d : Flags) : (s.setFlags fl u d).main.c = s.main.c := by unfold State.setFlags; split <;> rfl
@[simp] theorem State.setFlags_main_d (fl u d : Flags) : (s.setFlags fl u d).main.d = s.main.d := by unfold State.setFlags; split <;> rfl
@[simp] theorem State.setFlags_main_e (fl u d : Flags) : (s.setFlags fl u d).main.e = s.main.e := by unfold State.setFlags; split <;> rfl
@[simp] theorem State.setFlags_main_h (fl u d : Flags) : (s.setFlags fl u d).main.h = s.main.h := by unfold State.setFlags; split <;> rfl
@[simp] theorem State.setFlags_main_l (fl u d : Flags) : (s.setFlags fl u d).main.l = s.main.l := by unfold State.setFlags; split <;> rfl

@[simp] theorem RegSet.get_set_same (rs : RegSet) (r : Reg8) (v : Byte) : (rs.set r v).get r = v := by
  cases r <;> rfl

@[simp] theorem RegSet.get_set_other (rs : RegSet) (r q : Reg8) (v : Byte) (h : q ≠ r) :
    (rs.set r v).get q = rs.get q := by
  cases r <;> cases q <;> first | rfl | exact absurd rfl h

@[simp] theorem RegSet.set_f (rs : RegSet) (r : Reg8) (v : Byte) : (rs.set r v).f = rs.f := by
  cases r <;> rfl

end Sys2Proof.Machine
end

