-- ==== Sys2Proof/Laws/Flags.lean ====
section
/-! SUPPORT. The flag byte and its bits, and what writing the flags leaves. -/

namespace Sys2Proof.Machine

/-- The bits of a flag byte built from bits are those bits (R33). -/
@[simp] theorem Flags.ofByte_toByte (fl : Flags) : Flags.ofByte fl.toByte = fl := by
  obtain ⟨s, z, y, h, x, pv, n, c⟩ := fl
  cases s <;> cases z <;> cases y <;> cases h <;> cases x <;> cases pv <;> cases n <;> cases c <;> rfl

/-- A flag byte is built from its bits (R33). -/
@[simp] theorem Flags.toByte_ofByte (f : Byte) : (Flags.ofByte f).toByte = f := by
  revert f; decide +kernel

@[simp] theorem State.flags_setF (s : State) (f : Byte) : (s.setF f).flags = Flags.ofByte f := rfl

@[simp] theorem State.flags_begin (s : State) (fmt : Format) (n : Nat) : (s.begin fmt n).flags = s.flags := rfl

@[simp] theorem State.flags_setReg (s : State) (r : Reg8) (v : Byte) : (s.setReg r v).flags = s.flags := by
  simp [State.flags]

@[simp] theorem State.flags_writeByte (s : State) (a : Word) (v : Byte) : (s.writeByte a v).flags = s.flags := by
  simp [State.flags]

/-- With UNDOC_FLAGS = Exact (R6) only the `(draw)` bits are open. -/
@[simp] theorem openBits_exact (u d : Flags) : openBits u d = d := rfl

@[simp] theorem Flags.withFree_noBits (fl free : Flags) : fl.withFree .noBits free = fl := rfl

/-- A rule without `(draw)` bits writes exactly the flags it computes. -/
@[simp] theorem State.setFlags_noBits (s : State) (fl u : Flags) : s.setFlags fl u .noBits = s.setF fl.toByte := by
  simp [State.setFlags]

/-- The flags after a rule with or without `(draw)` bits: each open bit is the draw at the state's counter. -/
theorem State.flags_setFlags (s : State) (fl u d : Flags) :
    (s.setFlags fl u d).flags = fl.withFree d (.ofByte (Config.flagDraw s.draws)) := by
  unfold State.setFlags
  split
  · next h =>
    rw [openBits_exact] at h
    rw [h, Flags.withFree_noBits, State.flags_setF, Flags.ofByte_toByte]
  · rw [openBits_exact]
    simp [State.flags, State.setF]

/-- What `State.setFlags` writes: the flag byte and the counter of free values. -/
theorem State.setFlags_spec (s : State) (fl u d : Flags) :
    s.setFlags fl u d = { s with main := { s.main with f := (s.setFlags fl u d).main.f },
                                 draws := (s.setFlags fl u d).draws } := by
  unfold State.setFlags
  split <;> rfl

end Sys2Proof.Machine
end

