-- ==== Sys2Proof/Laws/Launch.lean ====
section
/-! SUPPORT. What a run of a launch can do (spec/70_reset_and_hazards.md R445): marks last, a final state is one
only, a halted run stays halted, a hang is a run without a final state, and the search for the end is right. -/

namespace Sys2Proof.Machine

/-! ### Marks -/

/-- A state with a mark stays as it is, whatever the host presents (R48). -/
theorem State.stepWith_marked (ev : Event) (s : State) (h : ¬ s.unmarked) : s.stepWith ev = s := by
  unfold State.stepWith step cycle present
  cases hf : s.faultMark with
  | some r =>
    show { s with faultMark := some r } = s
    rw [← hf]
  | none =>
    cases hr : s.refusedMark with
    | none => exact absurd ⟨hf, hr⟩ h
    | some r =>
      show { s with refusedMark := some r } = s
      rw [← hr]

/-- From a state with a mark on, the run does not move. -/
theorem Launch.stateAt_marked (l : Launch) (s : State) (n k : Nat) (h : ¬ (l.stateAt s n).unmarked) :
    l.stateAt s (n + k) = l.stateAt s n := by
  induction k with
  | zero => rfl
  | succ k ih =>
    show (l.stateAt s (n + k)).stepWith _ = _
    rw [ih]
    exact State.stepWith_marked _ _ h

/-! ### After the last event -/

/-- Past the schedule the host presents nothing. -/
theorem eventBefore_past {sch : List (Nat × Event)} {n : Nat} (h : ∀ e ∈ sch, e.1 < n) : eventBefore sch n = .none := by
  induction sch with
  | nil => rfl
  | cons e rest ih =>
    obtain ⟨k, ev⟩ := e
    have hk : k < n := h (k, ev) List.mem_cons_self
    rw [eventBefore, if_neg (Nat.ne_of_lt hk)]
    exact ih fun e he => h e (List.mem_cons_of_mem _ he)

/-- A halted state without a mark, and nothing presented: the step is the idle cycle (R406). -/
theorem State.stepWith_halted (s : State) (hh : s.halted = true) (hu : s.unmarked) :
    s.stepWith .none = s.eventTaken.idle := by
  simp [State.stepWith, step, cycle, present, stepEvent, ordinary, State.event, State.eventTaken, State.after, hh,
    hu.1, hu.2]

/-- The conditions of a final state last, while idle cycles go on (R406, R445). -/
theorem Launch.final_lasts (l : Launch) (s : State) (n : Nat) (h : (l.stateAt s n).final l.schedule n) :
    l.stateAt s (n + 1) = (l.stateAt s n).eventTaken.idle ∧ (l.stateAt s (n + 1)).final l.schedule (n + 1) := by
  obtain ⟨hh, hp, hu⟩ := h
  have hp' : ∀ e ∈ l.schedule, e.1 < n + 1 := fun e he => Nat.lt_succ_of_lt (hp e he)
  have hs : l.stateAt s (n + 1) = (l.stateAt s n).eventTaken.idle := by
    rw [Launch.stateAt, eventBefore_past hp', State.stepWith_halted _ hh hu]
  exact ⟨hs, by rw [hs]; exact ⟨hh, hp', hu⟩⟩

/-! ### The final state -/

/-- A run ends at one step only. -/
theorem Launch.endsAt_unique {l : Launch} {s : State} {m n : Nat} (hm : l.endsAt s m) (hn : l.endsAt s n) : m = n := by
  rcases Nat.lt_trichotomy m n with h | h | h
  · exact absurd hm.1 (hn.2 m h)
  · exact h
  · exact absurd hn.1 (hm.2 n h)

/-- A run has one final state only. -/
theorem Launch.finalState_unique {l : Launch} {s t u : State} (ht : l.finalState s t) (hu : l.finalState s u) :
    t = u := by
  obtain ⟨m, hm, rfl⟩ := ht
  obtain ⟨n, hn, rfl⟩ := hu
  rw [Launch.endsAt_unique hm hn]

/-- A final state has no mark (R400). -/
theorem Launch.finalState_unmarked {l : Launch} {s t : State} (h : l.finalState s t) : t.unmarked := by
  obtain ⟨n, hn, rfl⟩ := h
  exact hn.1.2.2

/-- A run in which some state meets the conditions ends, at that state or before. -/
theorem Launch.endsAt_of_final {l : Launch} {s : State} {n : Nat} (h : (l.stateAt s n).final l.schedule n) :
    ∃ m ≤ n, l.endsAt s m := by
  induction n using Nat.strongRecOn with
  | ind n ih =>
    by_cases hf : ∃ m, m < n ∧ (l.stateAt s m).final l.schedule m
    · obtain ⟨m, hm, hmf⟩ := hf
      obtain ⟨k, hk, he⟩ := ih m hm hmf
      exact ⟨k, Nat.le_trans hk (Nat.le_of_lt hm), he⟩
    · exact ⟨n, Nat.le_refl n, h, fun m hm hmf => hf ⟨m, hm, hmf⟩⟩

/-- A hang is a run that reaches no final state (R445). -/
theorem Launch.hangs_iff (l : Launch) (s : State) : l.hangs s ↔ ¬ l.reachesFinal s := by
  constructor
  · rintro h ⟨t, n, hn, -⟩
    exact h n hn.1
  · intro h n hn
    obtain ⟨m, -, hm⟩ := Launch.endsAt_of_final hn
    exact h ⟨_, m, hm, rfl⟩

/-! ### The search for the end -/

/-- What a search from `s_n` answers: the first number from `n` on that meets the conditions, or none within the
fuel. -/
theorem Launch.searchEnd_cases (l : Launch) (s : State) (fuel n : Nat) :
    (∃ m, l.searchEnd fuel n (l.stateAt s n) = some m ∧ n ≤ m ∧ m ≤ n + fuel ∧
      (l.stateAt s m).final l.schedule m ∧ ∀ k, n ≤ k → k < m → ¬ (l.stateAt s k).final l.schedule k) ∨
    (l.searchEnd fuel n (l.stateAt s n) = none ∧
      ∀ k, n ≤ k → k ≤ n + fuel → ¬ (l.stateAt s k).final l.schedule k) := by
  induction fuel generalizing n with
  | zero =>
    by_cases h : (l.stateAt s n).final l.schedule n
    · exact .inl ⟨n, if_pos h, Nat.le_refl n, Nat.le_refl n, h, fun k h1 h2 => by omega⟩
    · refine .inr ⟨if_neg h, fun k h1 h2 => ?_⟩
      obtain rfl : k = n := by omega
      exact h
  | succ fuel ih =>
    by_cases h : (l.stateAt s n).final l.schedule n
    · exact .inl ⟨n, if_pos h, Nat.le_refl n, by omega, h, fun k h1 h2 => by omega⟩
    · have hs : l.searchEnd (fuel + 1) n (l.stateAt s n) = l.searchEnd fuel (n + 1) (l.stateAt s (n + 1)) := if_neg h
      rcases ih (n + 1) with ⟨m, he, h1, h2, hf, hn⟩ | ⟨he, hn⟩
      · refine .inl ⟨m, hs.trans he, by omega, by omega, hf, fun k hk hkm => ?_⟩
        rcases Nat.eq_or_lt_of_le hk with rfl | hk
        · exact h
        · exact hn k hk hkm
      · refine .inr ⟨hs.trans he, fun k hk hkm => ?_⟩
        rcases Nat.eq_or_lt_of_le hk with rfl | hk
        · exact h
        · exact hn k hk (by omega)

/-- The step number a search answers is the end of the run. -/
theorem Launch.endsAt_of_endWithin {l : Launch} {s : State} {fuel n : Nat} (h : l.endWithin fuel s = some n) :
    l.endsAt s n := by
  rcases l.searchEnd_cases s fuel 0 with ⟨m, he, -, -, hf, hn⟩ | ⟨he, -⟩
  · obtain rfl : m = n := Option.some.inj (he.symm.trans h)
    exact ⟨hf, fun k hk => hn k (Nat.zero_le k) hk⟩
  · exact absurd (he.symm.trans h) (by simp)

/-- A search without an answer: the run does not end within the fuel. -/
theorem Launch.not_final_of_endWithin {l : Launch} {s : State} {fuel n : Nat} (h : l.endWithin fuel s = none)
    (hn : n ≤ fuel) : ¬ (l.stateAt s n).final l.schedule n := by
  rcases l.searchEnd_cases s fuel 0 with ⟨m, he, -⟩ | ⟨-, hf⟩
  · exact absurd (he.symm.trans h) (by simp)
  · exact hf n (Nat.zero_le n) (by omega)

end Sys2Proof.Machine
end

