-- ==== Sys2Proof/Laws/Memory.lean ====
section
/-! SUPPORT. The laws of the byte array: a read after a write, and that every operation keeps the canonical form. -/

namespace Sys2Proof.Machine

theorem memGet_memInsert_same (m : Memory) (a : Nat) (v : Byte) : memGet (memInsert m a v) a = v := by
  induction m with
  | nil => simp [memInsert, memGet]
  | cons c m ih =>
    obtain ⟨k, w⟩ := c
    unfold memInsert
    split
    · have : k ≠ a := by omega
      simp [memGet, this, ih]
    · split <;> simp [memGet]

theorem memGet_memInsert_other (m : Memory) (a b : Nat) (v : Byte) (h : b ≠ a) :
    memGet (memInsert m a v) b = memGet m b := by
  induction m with
  | nil => simp [memInsert, memGet, h.symm]
  | cons c m ih =>
    obtain ⟨k, w⟩ := c
    unfold memInsert
    split
    · simp [memGet, ih]
    · split
      · next hk => simp [memGet, h.symm, hk]
      · simp [memGet, h.symm]

theorem memGet_memErase_same (m : Memory) (a : Nat) : memGet (memErase m a) a = 0#8 := by
  induction m with
  | nil => rfl
  | cons c m ih =>
    obtain ⟨k, w⟩ := c
    by_cases h : k = a
    · simpa [memErase, h] using ih
    · simpa [memErase, memGet, h] using ih

theorem memGet_memErase_other (m : Memory) (a b : Nat) (h : b ≠ a) : memGet (memErase m a) b = memGet m b := by
  induction m with
  | nil => rfl
  | cons c m ih =>
    obtain ⟨k, w⟩ := c
    by_cases hk : k = a
    · subst hk
      simpa [memErase, memGet, h.symm] using ih
    · by_cases hb : k = b
      · subst hb; simp [memErase, memGet, hk]
      · simpa [memErase, memGet, hk, hb] using ih

/-- A read after a write of the same address. -/
@[simp] theorem memGet_memSet_same (m : Memory) (a : Nat) (v : Byte) : memGet (memSet m a v) a = v := by
  unfold memSet
  split
  · next h => rw [memGet_memErase_same, h]
  · exact memGet_memInsert_same m a v

/-- A write leaves every other address alone. -/
theorem memGet_memSet_other (m : Memory) (a b : Nat) (v : Byte) (h : b ≠ a) :
    memGet (memSet m a v) b = memGet m b := by
  unfold memSet
  split
  · exact memGet_memErase_other m a b h
  · exact memGet_memInsert_other m a b v h

theorem mem_memInsert {m : Memory} {a : Nat} {v : Byte} {c : Host.Cell} (h : c ∈ memInsert m a v) :
    c = (a, v) ∨ c ∈ m := by
  induction m with
  | nil => simpa [memInsert] using h
  | cons d m ih =>
    obtain ⟨k, w⟩ := d
    unfold memInsert at h
    split at h
    · rcases List.mem_cons.1 h with h | h
      · exact .inr (by simp [h])
      · rcases ih h with h | h
        · exact .inl h
        · exact .inr (List.mem_cons_of_mem _ h)
    · split at h
      · rcases List.mem_cons.1 h with h | h
        · exact .inl h
        · exact .inr (List.mem_cons_of_mem _ h)
      · exact List.mem_cons.1 h

theorem pairwise_memInsert {m : Memory} {a : Nat} {v : Byte}
    (h : m.Pairwise (fun x y => x.1 < y.1)) : (memInsert m a v).Pairwise (fun x y => x.1 < y.1) := by
  induction m with
  | nil => simp [memInsert]
  | cons d m ih =>
    obtain ⟨k, w⟩ := d
    rw [List.pairwise_cons] at h
    unfold memInsert
    split
    · next hk =>
      rw [List.pairwise_cons]
      refine ⟨fun c hc => ?_, ih h.2⟩
      rcases mem_memInsert hc with rfl | hc
      · exact hk
      · exact h.1 c hc
    · split
      · next _ hk =>
        subst hk
        exact List.pairwise_cons.2 h
      · next h1 h2 =>
        rw [List.pairwise_cons]
        have hak : a < k := by omega
        refine ⟨fun c hc => ?_, List.pairwise_cons.2 h⟩
        rcases List.mem_cons.1 hc with rfl | hc
        · exact hak
        · exact Nat.lt_trans hak (h.1 c hc)

/-- A write to an address of the space keeps the canonical form. -/
theorem memSet_wf {m : Memory} {a : Nat} {v : Byte} (ha : a < Config.maxAddress) (h : m.wf) :
    (memSet m a v).wf := by
  unfold memSet
  split
  · exact ⟨h.1.sublist List.filter_sublist, fun c hc => h.2 c (List.mem_filter.1 hc).1⟩
  · next hv =>
    refine ⟨pairwise_memInsert h.1, fun c hc => ?_⟩
    rcases mem_memInsert hc with rfl | hc
    · exact ⟨hv, ha⟩
    · exact h.2 c hc

/-- What every address reads as after a list of bytes is stored inside memory (R77): the list's byte in its range,
the old byte outside. -/
theorem memGet_memSetList (m : Memory) (vs : List Byte) (a x : Nat) (h : a + vs.length ≤ Config.maxAddress) :
    memGet (memSetList m a vs) x = if a ≤ x ∧ x < a + vs.length then vs.getD (x - a) 0#8 else memGet m x := by
  induction vs generalizing m a with
  | nil => rw [if_neg (by simp only [List.length_nil]; omega)]; rfl
  | cons v vs ih =>
    simp only [List.length_cons] at h ⊢
    have ha : a % Config.maxAddress = a := Nat.mod_eq_of_lt (by omega)
    rw [memSetList, ha, ih _ _ (by omega)]
    by_cases hx : x = a
    · subst hx
      rw [if_neg (by omega), if_pos (by omega), memGet_memSet_same]
      simp
    · rw [memGet_memSet_other _ _ _ _ hx]
      by_cases hr : a + 1 ≤ x ∧ x < a + 1 + vs.length
      · rw [if_pos hr, if_pos (by omega)]
        obtain ⟨k, rfl⟩ : ∃ k, x = a + 1 + k := ⟨x - (a + 1), by omega⟩
        rw [show a + 1 + k - (a + 1) = k by omega, show a + 1 + k - a = k + 1 by omega, List.getD_cons_succ]
      · rw [if_neg hr, if_neg (by omega)]

/-- Storing a list of bytes keeps the canonical form. -/
theorem memSetList_wf {m : Memory} {vs : List Byte} {a : Nat} (h : m.wf) : (memSetList m a vs).wf := by
  induction vs generalizing m a with
  | nil => exact h
  | cons v vs ih => exact ih (memSet_wf (Nat.mod_lt _ (by decide)) h)

/-- The empty memory is in the canonical form. -/
theorem memory_nil_wf : Memory.wf [] := ⟨List.Pairwise.nil, fun _ h => absurd h List.not_mem_nil⟩

end Sys2Proof.Machine
end

