-- ==== Sys2Proof/Laws/Ops.lean ====
section
/-! SUPPORT. One lemma per shared operation that says what it can do: the refresh count, byte and word writes, the
stack, taking an interrupt, and the step's case analysis. -/

namespace Sys2Proof.Machine

/-! ### The refresh register -/

theorem bumpR_byte (r x : Byte) : (r &&& 0x80#8) ||| ((r + x) &&& 0x7F#8) =
    BitVec.ofNat 8 (128 * (r.toNat / 128) + (r.toNat + x.toNat) % 128) := by
  revert r x; decide +kernel

/-- R after `k` opcode fetches: bit 7 is kept and the low 7 bits count modulo 128 (R40). -/
theorem bumpR_eq (k : Nat) (r : Byte) :
    bumpR k r = BitVec.ofNat 8 (128 * (r.toNat / 128) + (r.toNat + k) % 128) := by
  have h : (r.toNat + k % 256) % 128 = (r.toNat + k) % 128 := by omega
  rw [bumpR, bumpR_byte, BitVec.toNat_ofNat, show 2 ^ 8 = 256 from rfl, h]

/-- Absorbing no prefix changes nothing. -/
@[simp] theorem State.absorb_zero (s : State) : s.absorb 0 = s := by
  have h : bumpR 0 s.regR = s.regR := by
    generalize s.regR = r
    revert r; decide +kernel
  simp [State.absorb, h]

/-! ### Byte writes (R73) -/

/-- Reading a byte looks at memory only. -/
theorem State.readByte_congr {s t : State} (h : t.mem = s.mem) (a : Word) : t.readByte a = s.readByte a := by
  simp [State.readByte, h]

/-- The whole effect of a byte write: memory and the video flag. -/
theorem State.writeByte_spec (s : State) (a : Word) (v : Byte) :
    s.writeByte a v = { s with mem := (s.writeByte a v).mem, videoChanged := (s.writeByte a v).videoChanged } := by
  unfold State.writeByte
  split
  · rfl
  · split <;> rfl

/-- A byte after a byte write. -/
theorem State.readByte_writeByte (s : State) (a b : Word) (v : Byte) :
    (s.writeByte a v).readByte b = if b = a ∧ s.romSize ≤ a.toNat then v else s.readByte b := by
  unfold State.writeByte
  split
  · next h =>
    have : ¬ (b = a ∧ s.romSize ≤ a.toNat) := by omega
    simp [this]
  · next h =>
    have hr : s.romSize ≤ a.toNat := by omega
    split
    · next hv =>
      by_cases hb : b = a
      · subst hb; simp [hr, hv]
      · simp [hb]
    · by_cases hb : b = a
      · subst hb; simp [hr, State.readByte]
      · have hn : b.toNat ≠ a.toNat := fun e => hb (BitVec.eq_of_toNat_eq e)
        simp [hb, State.readByte, memGet_memSet_other _ _ _ _ hn]

/-- The video flag after a byte write: set when it was set or the write changed a byte in a window. -/
theorem State.videoChanged_writeByte (s : State) (a : Word) (v : Byte) :
    (s.writeByte a v).videoChanged =
      (s.videoChanged || (inVideo a.toNat && decide ((s.writeByte a v).readByte a ≠ s.readByte a))) := by
  rw [State.readByte_writeByte]
  unfold State.writeByte
  split
  · next h =>
    have : ¬ s.romSize ≤ a.toNat := by omega
    simp [this]
  · next h =>
    have hr : s.romSize ≤ a.toNat := by omega
    split
    · next hv => simp [hv]
    · next hv =>
      have hv' : v ≠ s.readByte a := fun e => hv e.symm
      simp [hr, hv']

/-- A byte write keeps the canonical form of memory. -/
theorem State.wf_writeByte {s : State} (a : Word) (v : Byte) (h : s.mem.wf) : (s.writeByte a v).mem.wf := by
  unfold State.writeByte
  split
  · exact h
  · split
    · exact h
    · exact memSet_wf a.isLt h

/-- A word write keeps the canonical form of memory. -/
theorem State.wf_writeWord {s : State} (a w : Word) (h : s.mem.wf) : (s.writeWord a w).mem.wf :=
  State.wf_writeByte _ _ (State.wf_writeByte _ _ h)

/-- A push keeps the canonical form of memory. -/
theorem State.wf_push {s : State} (v : Word) (h : s.mem.wf) : (s.push v).mem.wf := by
  unfold State.push
  exact State.wf_writeWord _ _ h

/-! ### Word accesses (R74, R75) -/

/-- The two bytes of a word lie at different addresses. -/
theorem word_succ_ne (a : Word) : a + 1#16 ≠ a := by
  intro h
  have := congrArg BitVec.toNat h
  rw [BitVec.toNat_add] at this
  have := a.isLt
  simp at *

/-- A byte after a word write. -/
theorem State.readByte_writeWord (s : State) (a b w : Word) :
    (s.writeWord a w).readByte b =
      if b = a + 1#16 ∧ s.romSize ≤ (a + 1#16).toNat then hiByte w
      else if b = a ∧ s.romSize ≤ a.toNat then loByte w else s.readByte b := by
  rw [State.writeWord, State.readByte_writeByte, State.readByte_writeByte, State.writeByte_romSize]

/-- A word reads back when neither of its bytes is protected. -/
theorem State.readWord_writeWord (s : State) (a w : Word) (h : s.romSize ≤ a.toNat)
    (h' : s.romSize ≤ (a + 1#16).toNat) : (s.writeWord a w).readWord a = w := by
  have hne : a ≠ a + 1#16 := (word_succ_ne a).symm
  rw [State.readWord, State.readByte_writeWord, State.readByte_writeWord, if_pos ⟨rfl, h'⟩,
    if_neg (fun c => hne c.1), if_pos ⟨rfl, h⟩, joinBytes_hi_lo]

/-- The whole effect of a word write. -/
theorem State.writeWord_spec (s : State) (a w : Word) :
    s.writeWord a w = { s with mem := (s.writeWord a w).mem, videoChanged := (s.writeWord a w).videoChanged } := by
  rw [State.writeWord, State.writeByte_spec (s.writeByte a (loByte w)), State.writeByte_spec s]

/-! ### Beginning an instruction (R120): operands read as before -/

@[simp] theorem State.reg_begin (s : State) (fmt : Format) (n : Nat) (r : Reg8) : (s.begin fmt n).reg r = s.reg r := rfl
@[simp] theorem State.xy_begin (s : State) (fmt : Format) (n : Nat) (x : Index) : (s.begin fmt n).xy x = s.xy x := rfl
@[simp] theorem State.half_begin (s : State) (fmt : Format) (n : Nat) (x : Index) (hf : Half) :
    (s.begin fmt n).half x hf = s.half x hf := rfl
@[simp] theorem State.bc_begin (s : State) (fmt : Format) (n : Nat) : (s.begin fmt n).bc = s.bc := rfl
@[simp] theorem State.de_begin (s : State) (fmt : Format) (n : Nat) : (s.begin fmt n).de = s.de := rfl
@[simp] theorem State.hl_begin (s : State) (fmt : Format) (n : Nat) : (s.begin fmt n).hl = s.hl := rfl
@[simp] theorem State.af_begin (s : State) (fmt : Format) (n : Nat) : (s.begin fmt n).af = s.af := rfl
@[simp] theorem State.pair_begin (s : State) (fmt : Format) (n : Nat) (p : Pair) :
    (s.begin fmt n).pair p = s.pair p := rfl
@[simp] theorem State.readByte_begin (s : State) (fmt : Format) (n : Nat) (a : Word) :
    (s.begin fmt n).readByte a = s.readByte a := rfl
@[simp] theorem State.readWord_begin (s : State) (fmt : Format) (n : Nat) (a : Word) :
    (s.begin fmt n).readWord a = s.readWord a := rfl

/-! ### The I/O boundary (R80) -/

/-- The two ways an `IoRead` is answered, with the whole state it leaves. -/
theorem State.ioAnswer_cases (s : State) (port : Word) :
    (∃ v vs, s.inputs = v :: vs ∧ s.ioAnswer port = v ∧ s.ioTaken = { s with inputs := vs }) ∨
    (s.inputs = [] ∧ s.ioAnswer port = Config.ioRead s.draws port ∧ s.ioTaken = { s with draws := s.draws + 1 }) := by
  unfold State.ioAnswer State.ioTaken
  cases h : s.inputs with
  | nil => exact .inr ⟨rfl, rfl, rfl⟩
  | cons v vs => exact .inl ⟨v, vs, rfl, rfl, rfl⟩

/-! ### The stack (R189) -/

/-- The whole effect of a push: SP goes down by 2, and memory and the video flag change as the word write says. -/
theorem State.push_spec (s : State) (v : Word) :
    s.push v = { s with
      sp := s.sp - 2#16
      mem := (s.push v).mem
      videoChanged := (s.push v).videoChanged } := by
  unfold State.push
  rw [State.writeWord_spec]
  rfl

/-- Reading a byte after a push. -/
theorem State.readByte_push (s : State) (v : Word) (b : Word) :
    (s.push v).readByte b =
      if b = s.sp - 2#16 + 1#16 ∧ s.romSize ≤ (s.sp - 2#16 + 1#16).toNat then hiByte v
      else if b = s.sp - 2#16 ∧ s.romSize ≤ (s.sp - 2#16).toNat then loByte v else s.readByte b := by
  unfold State.push
  rw [State.readByte_writeWord]
  rfl

/-! ### Interrupts (R402 to R405) -/

/-- Acceptance of a maskable interrupt answers a next state, but for the refusal of mode 0 (R404). -/
theorem acceptInt_cases (bus : Byte) (s : State) :
    (s.im = .im0 ∧ isRst bus = false ∧ acceptInt bus s = .refused (.im0BusNotRst bus)) ∨
    ∃ cost target, acceptInt bus s = .next (s.enterInt cost target) := by
  unfold acceptInt
  cases h : s.im with
  | im0 =>
    cases hr : isRst bus with
    | false => exact .inl ⟨rfl, rfl, by simp⟩
    | true => exact .inr ⟨13, fun _ => joinBytes 0x00#8 (bus &&& 0x38#8), by simp⟩
  | im1 => exact .inr ⟨_, _, rfl⟩
  | im2 => exact .inr ⟨_, _, rfl⟩

/-! ### The step -/

/-- What a step that answers a next state did (R120): an NMI, an accepted INT, an idle cycle, or an instruction
after `k` absorbed prefixes. -/
theorem cycle_cases {run : Dispatch} {s t : State} (h : cycle run s = .next t) :
    t = s.eventTaken.acceptNmi ∨
    (∃ cost target, t = s.eventTaken.enterInt cost target) ∨
    t = s.eventTaken.idle ∨
    ∃ k i, decodeAt s.eventTaken.fetch s.eventTaken.pc = some (k, i) ∧
      run i (s.eventTaken.absorb k) = .next t := by
  have hord : ∀ {u : State}, ordinary run u = .next t → t = u.idle ∨
      ∃ k i, decodeAt u.fetch u.pc = some (k, i) ∧ run i (u.absorb k) = .next t := by
    intro u hu
    unfold ordinary at hu
    split at hu
    · exact .inl (by simpa using hu.symm)
    · unfold execute at hu
      split at hu
      · cases hu
      · next k i hd => exact .inr ⟨k, i, hd, hu⟩
  unfold cycle at h
  split at h
  · cases h
  · cases h
  · unfold stepEvent at h
    split at h
    · exact .inl (by simpa using h.symm)
    · next bus _ =>
      split at h
      · rcases acceptInt_cases bus s.eventTaken with ⟨_, _, hr⟩ | ⟨c, g, hn⟩
        · rw [hr] at h; cases h
        · rw [hn] at h
          exact .inr (.inl ⟨c, g, by simpa using h.symm⟩)
      · exact .inr (.inr (hord h))
    · exact .inr (.inr (hord h))

/-- The step of an unmarked state. -/
theorem cycle_unmarked {run : Dispatch} {s : State} (h : s.unmarked) :
    cycle run s = stepEvent run s.event s.eventTaken := by
  simp [cycle, h.1, h.2]

end Sys2Proof.Machine
end

