-- ==== Sys2Proof/Laws/PerInstr.lean ====
section
/-! SUPPORT. Laws stated for every instruction, one lemma per constructor of `Instr`. -/

/-- The template the encoder writes has the length of the instruction's format (spec/30_encoding.md R101, R103). -/
def Sys2Proof.Laws.EncodedLength.Statement (i : Sys2Proof.Instr) : Prop :=
  (Sys2Proof.encode i).length = i.format.length

namespace Sys2Proof.Laws.EncodedLength

open Sys2Proof

theorem ldRR (r : Reg8) (r₂ : Reg8) : Statement (.ldRR r r₂) := rfl
theorem ldRN (r : Reg8) (n : Byte) : Statement (.ldRN r n) := rfl
theorem ldRHl (r : Reg8) : Statement (.ldRHl r) := rfl
theorem ldRXyd (r : Reg8) (xy : Index) (d : Byte) : Statement (.ldRXyd r xy d) := rfl
theorem ldHlR (r : Reg8) : Statement (.ldHlR r) := rfl
theorem ldXydR (xy : Index) (d : Byte) (r : Reg8) : Statement (.ldXydR xy d r) := rfl
theorem ldHlN (n : Byte) : Statement (.ldHlN n) := rfl
theorem ldXydN (xy : Index) (d : Byte) (n : Byte) : Statement (.ldXydN xy d n) := rfl
theorem ldABc : Statement .ldABc := rfl
theorem ldADe : Statement .ldADe := rfl
theorem ldAMem (nn : Word) : Statement (.ldAMem nn) := rfl
theorem ldBcA : Statement .ldBcA := rfl
theorem ldDeA : Statement .ldDeA := rfl
theorem ldMemA (nn : Word) : Statement (.ldMemA nn) := rfl
theorem ldAI : Statement .ldAI := rfl
theorem ldAR : Statement .ldAR := rfl
theorem ldIA : Statement .ldIA := rfl
theorem ldRA : Statement .ldRA := rfl
theorem ldHalf (xy : Index) (r : HReg) (r₂ : HReg) : Statement (.ldHalf xy r r₂) := rfl
theorem ldHalfN (xy : Index) (hf : Half) (n : Byte) : Statement (.ldHalfN xy hf n) := rfl
theorem ldDdNn (dd : Pair) (nn : Word) : Statement (.ldDdNn dd nn) := rfl
theorem ldXyNn (xy : Index) (nn : Word) : Statement (.ldXyNn xy nn) := rfl
theorem ldHlMem (nn : Word) : Statement (.ldHlMem nn) := rfl
theorem ldDdMem (dd : Pair) (nn : Word) : Statement (.ldDdMem dd nn) := rfl
theorem ldXyMem (xy : Index) (nn : Word) : Statement (.ldXyMem xy nn) := rfl
theorem ldMemHl (nn : Word) : Statement (.ldMemHl nn) := rfl
theorem ldMemDd (nn : Word) (dd : Pair) : Statement (.ldMemDd nn dd) := rfl
theorem ldMemXy (nn : Word) (xy : Index) : Statement (.ldMemXy nn xy) := rfl
theorem ldSpHl : Statement .ldSpHl := rfl
theorem ldSpXy (xy : Index) : Statement (.ldSpXy xy) := rfl
theorem pushQq (qq : StackPair) : Statement (.pushQq qq) := rfl
theorem pushXy (xy : Index) : Statement (.pushXy xy) := rfl
theorem popQq (qq : StackPair) : Statement (.popQq qq) := rfl
theorem popXy (xy : Index) : Statement (.popXy xy) := rfl
theorem exDeHl : Statement .exDeHl := rfl
theorem exAfAf : Statement .exAfAf := rfl
theorem exx : Statement .exx := rfl
theorem exSpHl : Statement .exSpHl := rfl
theorem exSpXy (xy : Index) : Statement (.exSpXy xy) := rfl
theorem ldi : Statement .ldi := rfl
theorem ldir : Statement .ldir := rfl
theorem ldd : Statement .ldd := rfl
theorem lddr : Statement .lddr := rfl
theorem cpi : Statement .cpi := rfl
theorem cpir : Statement .cpir := rfl
theorem cpd : Statement .cpd := rfl
theorem cpdr : Statement .cpdr := rfl
theorem addR (r : Reg8) : Statement (.addR r) := rfl
theorem addN (n : Byte) : Statement (.addN n) := rfl
theorem addHl : Statement .addHl := rfl
theorem addXyd (xy : Index) (d : Byte) : Statement (.addXyd xy d) := rfl
theorem addHalf (xy : Index) (hf : Half) : Statement (.addHalf xy hf) := rfl
theorem adcR (r : Reg8) : Statement (.adcR r) := rfl
theorem adcN (n : Byte) : Statement (.adcN n) := rfl
theorem adcHl : Statement .adcHl := rfl
theorem adcXyd (xy : Index) (d : Byte) : Statement (.adcXyd xy d) := rfl
theorem adcHalf (xy : Index) (hf : Half) : Statement (.adcHalf xy hf) := rfl
theorem subR (r : Reg8) : Statement (.subR r) := rfl
theorem subN (n : Byte) : Statement (.subN n) := rfl
theorem subHl : Statement .subHl := rfl
theorem subXyd (xy : Index) (d : Byte) : Statement (.subXyd xy d) := rfl
theorem subHalf (xy : Index) (hf : Half) : Statement (.subHalf xy hf) := rfl
theorem sbcR (r : Reg8) : Statement (.sbcR r) := rfl
theorem sbcN (n : Byte) : Statement (.sbcN n) := rfl
theorem sbcHl : Statement .sbcHl := rfl
theorem sbcXyd (xy : Index) (d : Byte) : Statement (.sbcXyd xy d) := rfl
theorem sbcHalf (xy : Index) (hf : Half) : Statement (.sbcHalf xy hf) := rfl
theorem andR (r : Reg8) : Statement (.andR r) := rfl
theorem andN (n : Byte) : Statement (.andN n) := rfl
theorem andHl : Statement .andHl := rfl
theorem andXyd (xy : Index) (d : Byte) : Statement (.andXyd xy d) := rfl
theorem andHalf (xy : Index) (hf : Half) : Statement (.andHalf xy hf) := rfl
theorem xorR (r : Reg8) : Statement (.xorR r) := rfl
theorem xorN (n : Byte) : Statement (.xorN n) := rfl
theorem xorHl : Statement .xorHl := rfl
theorem xorXyd (xy : Index) (d : Byte) : Statement (.xorXyd xy d) := rfl
theorem xorHalf (xy : Index) (hf : Half) : Statement (.xorHalf xy hf) := rfl
theorem orR (r : Reg8) : Statement (.orR r) := rfl
theorem orN (n : Byte) : Statement (.orN n) := rfl
theorem orHl : Statement .orHl := rfl
theorem orXyd (xy : Index) (d : Byte) : Statement (.orXyd xy d) := rfl
theorem orHalf (xy : Index) (hf : Half) : Statement (.orHalf xy hf) := rfl
theorem cpR (r : Reg8) : Statement (.cpR r) := rfl
theorem cpN (n : Byte) : Statement (.cpN n) := rfl
theorem cpHl : Statement .cpHl := rfl
theorem cpXyd (xy : Index) (d : Byte) : Statement (.cpXyd xy d) := rfl
theorem cpHalf (xy : Index) (hf : Half) : Statement (.cpHalf xy hf) := rfl
theorem incR (r : Reg8) : Statement (.incR r) := rfl
theorem incHl : Statement .incHl := rfl
theorem incXyd (xy : Index) (d : Byte) : Statement (.incXyd xy d) := rfl
theorem incHalf (xy : Index) (hf : Half) : Statement (.incHalf xy hf) := rfl
theorem decR (r : Reg8) : Statement (.decR r) := rfl
theorem decHl : Statement .decHl := rfl
theorem decXyd (xy : Index) (d : Byte) : Statement (.decXyd xy d) := rfl
theorem decHalf (xy : Index) (hf : Half) : Statement (.decHalf xy hf) := rfl
theorem daa : Statement .daa := rfl
theorem cpl : Statement .cpl := rfl
theorem neg : Statement .neg := rfl
theorem negDup (y : BitVec 3) : Statement (.negDup y) := rfl
theorem ccf : Statement .ccf := rfl
theorem scf : Statement .scf := rfl
theorem nop : Statement .nop := rfl
theorem halt : Statement .halt := rfl
theorem di : Statement .di := rfl
theorem ei : Statement .ei := rfl
theorem im0 : Statement .im0 := rfl
theorem im0Dup (y : BitVec 3) : Statement (.im0Dup y) := rfl
theorem im1 : Statement .im1 := rfl
theorem im1Dup : Statement .im1Dup := rfl
theorem im2 : Statement .im2 := rfl
theorem im2Dup : Statement .im2Dup := rfl
theorem nopEd00 (u : BitVec 6) : Statement (.nopEd00 u) := rfl
theorem nopEd80 (u : BitVec 5) : Statement (.nopEd80 u) := rfl
theorem nopEdA4 (u : BitVec 2) (v : BitVec 2) : Statement (.nopEdA4 u v) := rfl
theorem nopEdC0 (u : BitVec 6) : Statement (.nopEdC0 u) := rfl
theorem nopEd77 (u : BitVec 1) : Statement (.nopEd77 u) := rfl
theorem addHlSs (ss : Pair) : Statement (.addHlSs ss) := rfl
theorem adcHlSs (ss : Pair) : Statement (.adcHlSs ss) := rfl
theorem sbcHlSs (ss : Pair) : Statement (.sbcHlSs ss) := rfl
theorem addXyPp (xy : Index) (pp : IndexPair) : Statement (.addXyPp xy pp) := rfl
theorem incSs (ss : Pair) : Statement (.incSs ss) := rfl
theorem incXy (xy : Index) : Statement (.incXy xy) := rfl
theorem decSs (ss : Pair) : Statement (.decSs ss) := rfl
theorem decXy (xy : Index) : Statement (.decXy xy) := rfl
theorem rlca : Statement .rlca := rfl
theorem rla : Statement .rla := rfl
theorem rrca : Statement .rrca := rfl
theorem rra : Statement .rra := rfl
theorem rlcR (r : Reg8) : Statement (.rlcR r) := rfl
theorem rlcHl : Statement .rlcHl := rfl
theorem rlcXyd (xy : Index) (d : Byte) : Statement (.rlcXyd xy d) := rfl
theorem rlcXydR (xy : Index) (d : Byte) (r : Reg8) : Statement (.rlcXydR xy d r) := rfl
theorem rrcR (r : Reg8) : Statement (.rrcR r) := rfl
theorem rrcHl : Statement .rrcHl := rfl
theorem rrcXyd (xy : Index) (d : Byte) : Statement (.rrcXyd xy d) := rfl
theorem rrcXydR (xy : Index) (d : Byte) (r : Reg8) : Statement (.rrcXydR xy d r) := rfl
theorem rlR (r : Reg8) : Statement (.rlR r) := rfl
theorem rlHl : Statement .rlHl := rfl
theorem rlXyd (xy : Index) (d : Byte) : Statement (.rlXyd xy d) := rfl
theorem rlXydR (xy : Index) (d : Byte) (r : Reg8) : Statement (.rlXydR xy d r) := rfl
theorem rrR (r : Reg8) : Statement (.rrR r) := rfl
theorem rrHl : Statement .rrHl := rfl
theorem rrXyd (xy : Index) (d : Byte) : Statement (.rrXyd xy d) := rfl
theorem rrXydR (xy : Index) (d : Byte) (r : Reg8) : Statement (.rrXydR xy d r) := rfl
theorem slaR (r : Reg8) : Statement (.slaR r) := rfl
theorem slaHl : Statement .slaHl := rfl
theorem slaXyd (xy : Index) (d : Byte) : Statement (.slaXyd xy d) := rfl
theorem slaXydR (xy : Index) (d : Byte) (r : Reg8) : Statement (.slaXydR xy d r) := rfl
theorem sraR (r : Reg8) : Statement (.sraR r) := rfl
theorem sraHl : Statement .sraHl := rfl
theorem sraXyd (xy : Index) (d : Byte) : Statement (.sraXyd xy d) := rfl
theorem sraXydR (xy : Index) (d : Byte) (r : Reg8) : Statement (.sraXydR xy d r) := rfl
theorem sllR (r : Reg8) : Statement (.sllR r) := rfl
theorem sllHl : Statement .sllHl := rfl
theorem sllXyd (xy : Index) (d : Byte) : Statement (.sllXyd xy d) := rfl
theorem sllXydR (xy : Index) (d : Byte) (r : Reg8) : Statement (.sllXydR xy d r) := rfl
theorem srlR (r : Reg8) : Statement (.srlR r) := rfl
theorem srlHl : Statement .srlHl := rfl
theorem srlXyd (xy : Index) (d : Byte) : Statement (.srlXyd xy d) := rfl
theorem srlXydR (xy : Index) (d : Byte) (r : Reg8) : Statement (.srlXydR xy d r) := rfl
theorem rld : Statement .rld := rfl
theorem rrd : Statement .rrd := rfl
theorem bitR (b : BitVec 3) (r : Reg8) : Statement (.bitR b r) := rfl
theorem bitHl (b : BitVec 3) : Statement (.bitHl b) := rfl
theorem bitXyd (b : BitVec 3) (xy : Index) (d : Byte) : Statement (.bitXyd b xy d) := rfl
theorem bitXydDup (b : BitVec 3) (xy : Index) (d : Byte) (r : Reg8) : Statement (.bitXydDup b xy d r) := rfl
theorem resR (b : BitVec 3) (r : Reg8) : Statement (.resR b r) := rfl
theorem resHl (b : BitVec 3) : Statement (.resHl b) := rfl
theorem resXyd (b : BitVec 3) (xy : Index) (d : Byte) : Statement (.resXyd b xy d) := rfl
theorem resXydR (b : BitVec 3) (xy : Index) (d : Byte) (r : Reg8) : Statement (.resXydR b xy d r) := rfl
theorem setR (b : BitVec 3) (r : Reg8) : Statement (.setR b r) := rfl
theorem setHl (b : BitVec 3) : Statement (.setHl b) := rfl
theorem setXyd (b : BitVec 3) (xy : Index) (d : Byte) : Statement (.setXyd b xy d) := rfl
theorem setXydR (b : BitVec 3) (xy : Index) (d : Byte) (r : Reg8) : Statement (.setXydR b xy d r) := rfl
theorem jpNn (nn : Word) : Statement (.jpNn nn) := rfl
theorem jpCcNn (cc : Cond) (nn : Word) : Statement (.jpCcNn cc nn) := rfl
theorem jrE (e : Byte) : Statement (.jrE e) := rfl
theorem jrCcE (cc : RelCond) (e : Byte) : Statement (.jrCcE cc e) := rfl
theorem jpHl : Statement .jpHl := rfl
theorem jpXy (xy : Index) : Statement (.jpXy xy) := rfl
theorem djnzE (e : Byte) : Statement (.djnzE e) := rfl
theorem callNn (nn : Word) : Statement (.callNn nn) := rfl
theorem callCcNn (cc : Cond) (nn : Word) : Statement (.callCcNn cc nn) := rfl
theorem ret : Statement .ret := rfl
theorem retCc (cc : Cond) : Statement (.retCc cc) := rfl
theorem reti : Statement .reti := rfl
theorem retn : Statement .retn := rfl
theorem retnDup (y : BitVec 3) : Statement (.retnDup y) := rfl
theorem rstP (p : BitVec 3) : Statement (.rstP p) := rfl
theorem inAN (n : Byte) : Statement (.inAN n) := rfl
theorem inRC (r : Reg8) : Statement (.inRC r) := rfl
theorem inFC : Statement .inFC := rfl
theorem ini : Statement .ini := rfl
theorem inir : Statement .inir := rfl
theorem ind : Statement .ind := rfl
theorem indr : Statement .indr := rfl
theorem outNA (n : Byte) : Statement (.outNA n) := rfl
theorem outCR (r : Reg8) : Statement (.outCR r) := rfl
theorem outC0 : Statement .outC0 := rfl
theorem outi : Statement .outi := rfl
theorem otir : Statement .otir := rfl
theorem outd : Statement .outd := rfl
theorem otdr : Statement .otdr := rfl

end Sys2Proof.Laws.EncodedLength
end

