-- ==== Sys2Proof/Tests/Slice0.lean ====
section
/-! SUPPORT. Tests of single steps with expected values from spec/95_test_vectors.md, of the decoder with words
written out from the encodings, of well-formedness, and the witnesses of the statements. -/

namespace Sys2Proof.Tests

open Sys2Proof.Machine Sys2Proof.Claims

/-! ### Start states and ends -/

/-- The start state of the vectors: the bytes at PC, a second run of bytes at `addr`, SP = 0xC000, the rest 0. -/
def startAt (pc : Word) (bytes : List Byte) (a f : Byte := 0#8) (bc de hl : Word := 0#16) (addr : Nat := 0)
    (data : List Byte := []) : State :=
  { State.reset with
    main := { a := a, f := f, b := hiByte bc, c := loByte bc, d := hiByte de, e := loByte de, h := hiByte hl,
              l := loByte hl }
    sp := 0xC000#16
    pc := pc
    videoChanged := false
    mem := memSetList (memSetList [] pc.toNat bytes) addr data }

/-- The start state with the bytes at 0x8000. -/
abbrev start (bytes : List Byte) (a f : Byte := 0#8) (bc de hl : Word := 0#16) (addr : Nat := 0)
    (data : List Byte := []) : State :=
  startAt 0x8000#16 bytes a f bc de hl addr data

/-- The step from `s` answers a next state for which `p` holds. -/
abbrev Ends (s : State) (p : State → Bool) : Prop :=
  (match step s with
    | .next t => p t
    | .fault _ | .refused _ => false) = true


/-- The state has the given PC, R and T. -/
def atPc (t : State) (pc : Word) (r : Byte) (cycles : Nat) : Bool := t.pc == pc && t.regR == r && t.t == cycles

/-! ### Well-formedness: one ill-formed term for each check, which the check refuses -/

theorem test_wellFormed_ldHalf_needs_a_half : (Instr.ldHalf .ix .b .c).wellFormed = false := by decide
theorem test_wellFormed_negDup_zero : (Instr.negDup 0#3).wellFormed = false := by decide
theorem test_wellFormed_im0Dup_zero : (Instr.im0Dup 0#3).wellFormed = false := by decide
theorem test_wellFormed_im0Dup_two : (Instr.im0Dup 2#3).wellFormed = false := by decide
theorem test_wellFormed_retnDup_zero : (Instr.retnDup 0#3).wellFormed = false := by decide
theorem test_wellFormed_retnDup_one : (Instr.retnDup 1#3).wellFormed = false := by decide

/-! ### The host's placement of a word -/

/-- `LD (XY+d),n` of spec/opcode_table.json, its `match` with d = 5 and n = 0xAB, numbered as the table does. -/
theorem test_tableWord : decodeTableWord 32 0xDD3605AB = some (.ldXydN .ix 5#8 0xAB#8) := by decide

/-- The first step after reset runs the word placed: `LD A,0x80` (R142). -/
theorem test_withFetchWord : Ends (State.reset.withFetchWord 16 0x3E80) (fun t => t.main.a == 0x80#8 && t.t == 7) := by
  decide

/-! ### Decoding: words written out bit by bit from the encodings of spec/30_encoding.md to spec/49_io.md -/

/-- Each list of bytes decodes to its instruction, and the encoder gives the bytes back. -/
abbrev Words (ws : List (List Byte × Instr)) : Prop :=
  ws.all (fun w => decide (decodeBytes w.1 = .row w.2) && decide (encode w.2 = w.1) && w.2.wellFormed) = true

/-- Words of the rows of R141 to R160, each written out from the row's encoding. -/
theorem test_decode_load8 : Words [
    ([0b01100010#8], .ldRR .h .d),
    ([0b00101110#8, 0b10110111#8], .ldRN .l 0xB7#8),
    ([0b01111110#8], .ldRHl .a),
    ([0b11011101#8, 0b01111110#8, 0b11101110#8], .ldRXyd .a .ix 0xEE#8),
    ([0b01110111#8], .ldHlR .a),
    ([0b11011101#8, 0b01110101#8, 0b00011010#8], .ldXydR .ix 0x1A#8 .l),
    ([0b00110110#8, 0b01010000#8], .ldHlN 0x50#8),
    ([0b11011101#8, 0b00110110#8, 0b10111110#8, 0b11110000#8], .ldXydN .ix 0xBE#8 0xF0#8),
    ([0b00001010#8], .ldABc),
    ([0b00011010#8], .ldADe),
    ([0b00111010#8, 0b01111110#8, 0b11000010#8], .ldAMem 0xC27E#16),
    ([0b00000010#8], .ldBcA),
    ([0b00010010#8], .ldDeA),
    ([0b00110010#8, 0b00110100#8, 0b01111111#8], .ldMemA 0x7F34#16),
    ([0b11101101#8, 0b01010111#8], .ldAI),
    ([0b11101101#8, 0b01011111#8], .ldAR),
    ([0b11101101#8, 0b01000111#8], .ldIA),
    ([0b11101101#8, 0b01001111#8], .ldRA),
    ([0b11011101#8, 0b01101001#8], .ldHalf .ix .xl .c),
    ([0b11111101#8, 0b00101110#8, 0b01011101#8], .ldHalfN .iy .lo 0x5D#8)] := by decide

/-- Words of the rows of R170 to R188, each written out from the row's encoding. -/
theorem test_decode_load16 : Words [
    ([0b00110001#8, 0b01010001#8, 0b00100100#8], .ldDdNn .sp 0x2451#16),
    ([0b11011101#8, 0b00100001#8, 0b11100011#8, 0b01000000#8], .ldXyNn .ix 0x40E3#16),
    ([0b00101010#8, 0b01000011#8, 0b00000000#8], .ldHlMem 0x0043#16),
    ([0b11101101#8, 0b01001011#8, 0b01101011#8, 0b01101110#8], .ldDdMem .bc 0x6E6B#16),
    ([0b11011101#8, 0b00101010#8, 0b01010101#8, 0b10010100#8], .ldXyMem .ix 0x9455#16),
    ([0b00100010#8, 0b10100000#8, 0b01100101#8], .ldMemHl 0x65A0#16),
    ([0b11101101#8, 0b01010011#8, 0b01011101#8, 0b01100100#8], .ldMemDd 0x645D#16 .de),
    ([0b11111101#8, 0b00100010#8, 0b10011000#8, 0b00001011#8], .ldMemXy 0x0B98#16 .iy),
    ([0b11111001#8], .ldSpHl),
    ([0b11111101#8, 0b11111001#8], .ldSpXy .iy),
    ([0b11110101#8], .pushQq .af),
    ([0b11011101#8, 0b11100101#8], .pushXy .ix),
    ([0b11010001#8], .popQq .de),
    ([0b11111101#8, 0b11100001#8], .popXy .iy),
    ([0b11101011#8], .exDeHl),
    ([0b00001000#8], .exAfAf),
    ([0b11011001#8], .exx),
    ([0b11100011#8], .exSpHl),
    ([0b11011101#8, 0b11100011#8], .exSpXy .ix)] := by decide

/-- Words of the rows of R200 to R207, each written out from the row's encoding. -/
theorem test_decode_block : Words [
    ([0b11101101#8, 0b10100000#8], .ldi),
    ([0b11101101#8, 0b10110000#8], .ldir),
    ([0b11101101#8, 0b10101000#8], .ldd),
    ([0b11101101#8, 0b10111000#8], .lddr),
    ([0b11101101#8, 0b10100001#8], .cpi),
    ([0b11101101#8, 0b10110001#8], .cpir),
    ([0b11101101#8, 0b10101001#8], .cpd),
    ([0b11101101#8, 0b10111001#8], .cpdr)] := by decide

/-- Words of the rows of R222 to R228, each written out from the row's encoding. -/
theorem test_decode_alu8_1 : Words [
    ([0b10000010#8], .addR .d),
    ([0b11000110#8, 0b10011010#8], .addN 0x9A#8),
    ([0b10000110#8], .addHl),
    ([0b11011101#8, 0b10000110#8, 0b10101101#8], .addXyd .ix 0xAD#8),
    ([0b11011101#8, 0b10000101#8], .addHalf .ix .lo),
    ([0b10001010#8], .adcR .d),
    ([0b11001110#8, 0b10011100#8], .adcN 0x9C#8),
    ([0b10001110#8], .adcHl),
    ([0b11111101#8, 0b10001110#8, 0b10100001#8], .adcXyd .iy 0xA1#8),
    ([0b11011101#8, 0b10001101#8], .adcHalf .ix .lo),
    ([0b10010011#8], .subR .e),
    ([0b11010110#8, 0b01011010#8], .subN 0x5A#8),
    ([0b10010110#8], .subHl),
    ([0b11011101#8, 0b10010110#8, 0b10000011#8], .subXyd .ix 0x83#8),
    ([0b11011101#8, 0b10010101#8], .subHalf .ix .lo),
    ([0b10011111#8], .sbcR .a),
    ([0b11011110#8, 0b11001110#8], .sbcN 0xCE#8),
    ([0b10011110#8], .sbcHl),
    ([0b11011101#8, 0b10011110#8, 0b11010110#8], .sbcXyd .ix 0xD6#8),
    ([0b11111101#8, 0b10011101#8], .sbcHalf .iy .lo),
    ([0b10100100#8], .andR .h),
    ([0b11100110#8, 0b00000100#8], .andN 0x04#8),
    ([0b10100110#8], .andHl),
    ([0b11111101#8, 0b10100110#8, 0b00010111#8], .andXyd .iy 0x17#8),
    ([0b11011101#8, 0b10100100#8], .andHalf .ix .hi),
    ([0b10101000#8], .xorR .b),
    ([0b11101110#8, 0b01111101#8], .xorN 0x7D#8),
    ([0b10101110#8], .xorHl),
    ([0b11111101#8, 0b10101110#8, 0b10110000#8], .xorXyd .iy 0xB0#8),
    ([0b11111101#8, 0b10101101#8], .xorHalf .iy .lo),
    ([0b10110111#8], .orR .a),
    ([0b11110110#8, 0b11101100#8], .orN 0xEC#8)] := by decide

/-- Words of the rows of R228 to R231, each written out from the row's encoding. -/
theorem test_decode_alu8_2 : Words [
    ([0b10110110#8], .orHl),
    ([0b11011101#8, 0b10110110#8, 0b10111100#8], .orXyd .ix 0xBC#8),
    ([0b11111101#8, 0b10110100#8], .orHalf .iy .hi),
    ([0b10111011#8], .cpR .e),
    ([0b11111110#8, 0b00101110#8], .cpN 0x2E#8),
    ([0b10111110#8], .cpHl),
    ([0b11011101#8, 0b10111110#8, 0b10101110#8], .cpXyd .ix 0xAE#8),
    ([0b11111101#8, 0b10111100#8], .cpHalf .iy .hi),
    ([0b00010100#8], .incR .d),
    ([0b00110100#8], .incHl),
    ([0b11111101#8, 0b00110100#8, 0b00101111#8], .incXyd .iy 0x2F#8),
    ([0b11111101#8, 0b00101100#8], .incHalf .iy .lo),
    ([0b00010101#8], .decR .d),
    ([0b00110101#8], .decHl),
    ([0b11011101#8, 0b00110101#8, 0b00101000#8], .decXyd .ix 0x28#8),
    ([0b11011101#8, 0b00101101#8], .decHalf .ix .lo)] := by decide

/-- Words of the rows of R250 to R262, each written out from the row's encoding. -/
theorem test_decode_control : Words [
    ([0b00100111#8], .daa),
    ([0b00101111#8], .cpl),
    ([0b11101101#8, 0b01000100#8], .neg),
    ([0b11101101#8, 0b01010100#8], .negDup 2#3),
    ([0b00111111#8], .ccf),
    ([0b00110111#8], .scf),
    ([0b00000000#8], .nop),
    ([0b01110110#8], .halt),
    ([0b11110011#8], .di),
    ([0b11111011#8], .ei),
    ([0b11101101#8, 0b01000110#8], .im0),
    ([0b11101101#8, 0b01001110#8], .im0Dup 1#3),
    ([0b11101101#8, 0b01010110#8], .im1),
    ([0b11101101#8, 0b01110110#8], .im1Dup),
    ([0b11101101#8, 0b01011110#8], .im2),
    ([0b11101101#8, 0b01111110#8], .im2Dup),
    ([0b11101101#8, 0b00100000#8], .nopEd00 32#6),
    ([0b11101101#8, 0b10011101#8], .nopEd80 29#5),
    ([0b11101101#8, 0b10111101#8], .nopEdA4 3#2 1#2),
    ([0b11101101#8, 0b11000111#8], .nopEdC0 7#6),
    ([0b11101101#8, 0b01110111#8], .nopEd77 0#1)] := by decide

/-- Words of the rows of R270 to R277, each written out from the row's encoding. -/
theorem test_decode_alu16 : Words [
    ([0b00111001#8], .addHlSs .sp),
    ([0b11101101#8, 0b01101010#8], .adcHlSs .hl),
    ([0b11101101#8, 0b01010010#8], .sbcHlSs .de),
    ([0b11011101#8, 0b00011001#8], .addXyPp .ix .de),
    ([0b00110011#8], .incSs .sp),
    ([0b11011101#8, 0b00100011#8], .incXy .ix),
    ([0b00011011#8], .decSs .de),
    ([0b11111101#8, 0b00101011#8], .decXy .iy)] := by decide

/-- Words of the rows of R285 to R298, each written out from the row's encoding. -/
theorem test_decode_rotate_1 : Words [
    ([0b00000111#8], .rlca),
    ([0b00010111#8], .rla),
    ([0b00001111#8], .rrca),
    ([0b00011111#8], .rra),
    ([0b11001011#8, 0b00000010#8], .rlcR .d),
    ([0b11001011#8, 0b00000110#8], .rlcHl),
    ([0b11011101#8, 0b11001011#8, 0b00011110#8, 0b00000110#8], .rlcXyd .ix 0x1E#8),
    ([0b11111101#8, 0b11001011#8, 0b10010110#8, 0b00000001#8], .rlcXydR .iy 0x96#8 .c),
    ([0b11001011#8, 0b00001011#8], .rrcR .e),
    ([0b11001011#8, 0b00001110#8], .rrcHl),
    ([0b11011101#8, 0b11001011#8, 0b11101000#8, 0b00001110#8], .rrcXyd .ix 0xE8#8),
    ([0b11111101#8, 0b11001011#8, 0b10100010#8, 0b00001011#8], .rrcXydR .iy 0xA2#8 .e),
    ([0b11001011#8, 0b00010010#8], .rlR .d),
    ([0b11001011#8, 0b00010110#8], .rlHl),
    ([0b11111101#8, 0b11001011#8, 0b11110000#8, 0b00010110#8], .rlXyd .iy 0xF0#8),
    ([0b11111101#8, 0b11001011#8, 0b01001011#8, 0b00010000#8], .rlXydR .iy 0x4B#8 .b),
    ([0b11001011#8, 0b00011011#8], .rrR .e),
    ([0b11001011#8, 0b00011110#8], .rrHl),
    ([0b11011101#8, 0b11001011#8, 0b11111111#8, 0b00011110#8], .rrXyd .ix 0xFF#8),
    ([0b11111101#8, 0b11001011#8, 0b01011100#8, 0b00011000#8], .rrXydR .iy 0x5C#8 .b),
    ([0b11001011#8, 0b00100011#8], .slaR .e),
    ([0b11001011#8, 0b00100110#8], .slaHl),
    ([0b11111101#8, 0b11001011#8, 0b10111000#8, 0b00100110#8], .slaXyd .iy 0xB8#8),
    ([0b11011101#8, 0b11001011#8, 0b10110110#8, 0b00100101#8], .slaXydR .ix 0xB6#8 .l),
    ([0b11001011#8, 0b00101100#8], .sraR .h),
    ([0b11001011#8, 0b00101110#8], .sraHl),
    ([0b11011101#8, 0b11001011#8, 0b10011100#8, 0b00101110#8], .sraXyd .ix 0x9C#8),
    ([0b11111101#8, 0b11001011#8, 0b10001111#8, 0b00101111#8], .sraXydR .iy 0x8F#8 .a),
    ([0b11001011#8, 0b00110011#8], .sllR .e),
    ([0b11001011#8, 0b00110110#8], .sllHl),
    ([0b11111101#8, 0b11001011#8, 0b10010110#8, 0b00110110#8], .sllXyd .iy 0x96#8),
    ([0b11111101#8, 0b11001011#8, 0b01011011#8, 0b00110100#8], .sllXydR .iy 0x5B#8 .h)] := by decide

/-- Words of the rows of R297 to R300, each written out from the row's encoding. -/
theorem test_decode_rotate_2 : Words [
    ([0b11001011#8, 0b00111111#8], .srlR .a),
    ([0b11001011#8, 0b00111110#8], .srlHl),
    ([0b11011101#8, 0b11001011#8, 0b11110010#8, 0b00111110#8], .srlXyd .ix 0xF2#8),
    ([0b11111101#8, 0b11001011#8, 0b10100110#8, 0b00111101#8], .srlXydR .iy 0xA6#8 .l),
    ([0b11101101#8, 0b01101111#8], .rld),
    ([0b11101101#8, 0b01100111#8], .rrd)] := by decide

/-- Words of the rows of R310 to R316, each written out from the row's encoding. -/
theorem test_decode_bit : Words [
    ([0b11001011#8, 0b01100011#8], .bitR 4#3 .e),
    ([0b11001011#8, 0b01100110#8], .bitHl 4#3),
    ([0b11111101#8, 0b11001011#8, 0b10110010#8, 0b01100110#8], .bitXyd 4#3 .iy 0xB2#8),
    ([0b11111101#8, 0b11001011#8, 0b11010001#8, 0b01101111#8], .bitXydDup 5#3 .iy 0xD1#8 .a),
    ([0b11001011#8, 0b10010111#8], .resR 2#3 .a),
    ([0b11001011#8, 0b10111110#8], .resHl 7#3),
    ([0b11111101#8, 0b11001011#8, 0b10101011#8, 0b10010110#8], .resXyd 2#3 .iy 0xAB#8),
    ([0b11011101#8, 0b11001011#8, 0b01100101#8, 0b10101111#8], .resXydR 5#3 .ix 0x65#8 .a),
    ([0b11001011#8, 0b11111010#8], .setR 7#3 .d),
    ([0b11001011#8, 0b11001110#8], .setHl 1#3),
    ([0b11111101#8, 0b11001011#8, 0b01010111#8, 0b11110110#8], .setXyd 6#3 .iy 0x57#8),
    ([0b11111101#8, 0b11001011#8, 0b10001010#8, 0b11000001#8], .setXydR 0#3 .iy 0x8A#8 .c)] := by decide

/-- Words of the rows of R331 to R344, each written out from the row's encoding. -/
theorem test_decode_jump : Words [
    ([0b11000011#8, 0b01010001#8, 0b11100001#8], .jpNn 0xE151#16),
    ([0b11010010#8, 0b01110000#8, 0b01011100#8], .jpCcNn .nc 0x5C70#16),
    ([0b00011000#8, 0b00010101#8], .jrE 0x15#8),
    ([0b00111000#8, 0b01110011#8], .jrCcE .c 0x73#8),
    ([0b11101001#8], .jpHl),
    ([0b11011101#8, 0b11101001#8], .jpXy .ix),
    ([0b00010000#8, 0b00011011#8], .djnzE 0x1B#8),
    ([0b11001101#8, 0b01000100#8, 0b00111000#8], .callNn 0x3844#16),
    ([0b11101100#8, 0b01011100#8, 0b11110111#8], .callCcNn .pe 0xF75C#16),
    ([0b11001001#8], .ret),
    ([0b11011000#8], .retCc .c),
    ([0b11101101#8, 0b01001101#8], .reti),
    ([0b11101101#8, 0b01000101#8], .retn),
    ([0b11101101#8, 0b01101101#8], .retnDup 5#3),
    ([0b11111111#8], .rstP 7#3)] := by decide

/-- Words of the rows of R361 to R374, each written out from the row's encoding. -/
theorem test_decode_io : Words [
    ([0b11011011#8, 0b10110011#8], .inAN 0xB3#8),
    ([0b11101101#8, 0b01011000#8], .inRC .e),
    ([0b11101101#8, 0b01110000#8], .inFC),
    ([0b11101101#8, 0b10100010#8], .ini),
    ([0b11101101#8, 0b10110010#8], .inir),
    ([0b11101101#8, 0b10101010#8], .ind),
    ([0b11101101#8, 0b10111010#8], .indr),
    ([0b11010011#8, 0b00100100#8], .outNA 0x24#8),
    ([0b11101101#8, 0b01100001#8], .outCR .h),
    ([0b11101101#8, 0b01110001#8], .outC0),
    ([0b11101101#8, 0b10100011#8], .outi),
    ([0b11101101#8, 0b10110011#8], .otir),
    ([0b11101101#8, 0b10101011#8], .outd),
    ([0b11101101#8, 0b10111011#8], .otdr)] := by decide
/-! ### One-step vectors of spec/95_test_vectors.md, part 3 -/

/-- Vector D1, R255. -/
theorem test_nop :
    Ends (start [0x00#8]) (fun t =>
      t.main.f == 0x00#8 && atPc t 0x8001#16 0x01#8 4) := by decide

/-- Vector D5, R112, R271. -/
theorem test_adcHlSs_absorbed_prefix :
    Ends ({ start [0xDD#8, 0xED#8, 0x4A#8] (bc := 0x0001#16) (hl := 0x0001#16) with ix := 0x5555#16 }) (fun t =>
      t.main.l == 0x02#8 && t.main.f == 0x00#8 && atPc t 0x8003#16 0x03#8 19) := by decide

/-- Vector D6, R112, R184. -/
theorem test_exDeHl_absorbed_prefix :
    Ends ({ start [0xDD#8, 0xEB#8] (de := 0x1111#16) (hl := 0x2222#16) with ix := 0x3333#16 }) (fun t =>
      t.main.d == 0x22#8 && t.main.e == 0x22#8 && t.main.h == 0x11#8 && t.main.l == 0x11#8 && t.main.f == 0x00#8 &&
      atPc t 0x8002#16 0x02#8 8) := by decide

/-- Vector D7, R112, R256. -/
theorem test_halt_absorbed_prefix :
    Ends (start [0xFD#8, 0x76#8]) (fun t =>
      t.halted && t.main.f == 0x00#8 && atPc t 0x8002#16 0x02#8 8) := by decide

/-- Vector D10, R262. -/
theorem test_nopEdC0 :
    Ends (start [0xED#8, 0xFF#8]) (fun t =>
      t.main.f == 0x00#8 && atPc t 0x8002#16 0x02#8 8) := by decide

/-- Vector D9, R262. -/
theorem test_nopEd00 :
    Ends (start [0xED#8, 0x00#8]) (fun t =>
      t.main.f == 0x00#8 && atPc t 0x8002#16 0x02#8 8) := by decide

/-- Vector D11, R262. -/
theorem test_nopEd77 :
    Ends (start [0xED#8, 0x77#8]) (fun t =>
      t.main.f == 0x00#8 && atPc t 0x8002#16 0x02#8 8) := by decide

/-- Vector D14, R71, R142. -/
theorem test_ldRN_wraps_at_top :
    Ends (startAt 0xFFFF [0x3E#8] (addr := 0x0000) (data := [0x12#8])) (fun t =>
      t.main.a == 0x12#8 && t.main.f == 0x00#8 && atPc t 0x0001#16 0x01#8 7) := by decide

/-- Vector D15, R113, R298. -/
theorem test_rlcXydR :
    Ends ({ start [0xFD#8, 0xCB#8, 0x00#8, 0x00#8]
        (addr := 0x9000) (data := [0x81#8]) with iy := 0x9000#16 }) (fun t =>
      t.main.b == 0x03#8 && t.main.f == 0x05#8 && t.readByte 0x9000#16 == 0x03#8 &&
      atPc t 0x8004#16 0x02#8 23) := by decide

/-- Vector D16, R159. -/
theorem test_ldHalf :
    Ends ({ start [0xDD#8, 0x65#8] with ix := 0x12AB#16 }) (fun t =>
      t.ix == 0xABAB#16 && t.main.f == 0x00#8 && atPc t 0x8002#16 0x02#8 8) := by decide

/-- Vector M1, R73, R78. -/
theorem test_ldMemA_video :
    Ends (start [0x32#8, 0x10#8, 0x40#8] (a := 0xFF#8)) (fun t =>
      t.videoChanged && t.main.f == 0x00#8 && t.readByte 0x4010#16 == 0xFF#8 &&
      atPc t 0x8003#16 0x01#8 13) := by decide

/-- Vector M3, R73, R79. -/
theorem test_ldMemA_protected :
    Ends ({ start [0x32#8, 0x00#8, 0x10#8] (a := 0x55#8)
        (addr := 0x1000) (data := [0xAA#8]) with romSize := 0x4000 }) (fun t =>
      t.main.f == 0x00#8 && t.readByte 0x1000#16 == 0xAA#8 && atPc t 0x8003#16 0x01#8 13) := by decide

/-- Vector M4, R75, R79. -/
theorem test_ldMemHl_across_rom_end :
    Ends ({ start [0x22#8, 0xFF#8, 0x3F#8] (hl := 0xBEEF#16) with romSize := 0x4000 }) (fun t =>
      t.videoChanged && t.main.f == 0x00#8 && t.readByte 0x4000#16 == 0xBE#8 && t.readByte 0x3FFF#16 == 0x00#8 &&
      atPc t 0x8003#16 0x01#8 16) := by decide

/-- Vector M7, R74, R172. -/
theorem test_ldHlMem_wraps :
    Ends (start [0x2A#8, 0xFF#8, 0xFF#8] (addr := 0xFFFF) (data := [0x34#8, 0x12#8])) (fun t =>
      t.main.h == 0x12#8 && t.main.l == 0x34#8 && t.main.f == 0x00#8 && atPc t 0x8003#16 0x01#8 16) := by decide

/-- Vector L1, R141. -/
theorem test_ldRR :
    Ends (start [0x41#8] (bc := 0x005A#16)) (fun t =>
      t.main.b == 0x5A#8 && t.main.f == 0x00#8 && atPc t 0x8001#16 0x01#8 4) := by decide

/-- Vector L3, R143. -/
theorem test_ldRHl :
    Ends (start [0x7E#8] (hl := 0x9000#16) (addr := 0x9000) (data := [0xC3#8])) (fun t =>
      t.main.a == 0xC3#8 && t.main.f == 0x00#8 && atPc t 0x8001#16 0x01#8 7) := by decide

/-- Vector L4, R144. -/
theorem test_ldRXyd_negative :
    Ends ({ start [0xFD#8, 0x7E#8, 0xFF#8] (addr := 0x9000) (data := [0x42#8]) with iy := 0x9001#16 }) (fun t =>
      t.main.a == 0x42#8 && t.main.f == 0x00#8 && atPc t 0x8003#16 0x02#8 19) := by decide

/-- Vector L6, R145. -/
theorem test_ldHlR :
    Ends (start [0x77#8] (a := 0x3C#8) (hl := 0x9000#16)) (fun t =>
      t.main.f == 0x00#8 && t.readByte 0x9000#16 == 0x3C#8 && atPc t 0x8001#16 0x01#8 7) := by decide

/-- Vector L7, R146. -/
theorem test_ldXydR :
    Ends ({ start [0xDD#8, 0x70#8, 0x80#8] (bc := 0x1100#16) with ix := 0x9080#16 }) (fun t =>
      t.main.f == 0x00#8 && t.readByte 0x9000#16 == 0x11#8 && atPc t 0x8003#16 0x02#8 19) := by decide

/-- Vector L8, R147. -/
theorem test_ldHlN :
    Ends (start [0x36#8, 0x55#8] (hl := 0x9000#16)) (fun t =>
      t.main.f == 0x00#8 && t.readByte 0x9000#16 == 0x55#8 && atPc t 0x8002#16 0x01#8 10) := by decide

/-- Vector L9, R148. -/
theorem test_ldXydN :
    Ends ({ start [0xDD#8, 0x36#8, 0x0A#8, 0xAA#8] with ix := 0x9000#16 }) (fun t =>
      t.main.f == 0x00#8 && t.readByte 0x900A#16 == 0xAA#8 && atPc t 0x8004#16 0x02#8 19) := by decide

/-- Vector L10, R149. -/
theorem test_ldABc :
    Ends (start [0x0A#8] (bc := 0x9000#16) (addr := 0x9000) (data := [0x07#8])) (fun t =>
      t.main.a == 0x07#8 && t.main.f == 0x00#8 && atPc t 0x8001#16 0x01#8 7) := by decide

/-- Vector L11, R151. -/
theorem test_ldAMem :
    Ends (start [0x3A#8, 0x34#8, 0x12#8] (addr := 0x1234) (data := [0x5E#8])) (fun t =>
      t.main.a == 0x5E#8 && t.main.f == 0x00#8 && atPc t 0x8003#16 0x01#8 13) := by decide

/-- Vector L13, R155. -/
theorem test_ldAI :
    Ends ({ start [0xED#8, 0x57#8] (f := 0x01#8) with regI := 0x80#8, iff2 := true }) (fun t =>
      t.main.a == 0x80#8 && t.main.f == 0x85#8 && atPc t 0x8002#16 0x02#8 9) := by decide

/-- Vector L15, R156. -/
theorem test_ldAR_wraps :
    Ends ({ start [0xED#8, 0x5F#8] with regR := 0x7E#8, iff2 := true }) (fun t =>
      t.main.f == 0x44#8 && atPc t 0x8002#16 0x00#8 9) := by decide

/-- Vector L16, R156. -/
theorem test_ldAR :
    Ends ({ start [0xED#8, 0x5F#8] with regR := 0xFF#8 }) (fun t =>
      t.main.a == 0x81#8 && t.main.f == 0x80#8 && atPc t 0x8002#16 0x81#8 9) := by decide

/-- Vector L17, R157. -/
theorem test_ldIA :
    Ends (start [0xED#8, 0x47#8] (a := 0x3F#8)) (fun t =>
      t.regI == 0x3F#8 && t.main.f == 0x00#8 && atPc t 0x8002#16 0x02#8 9) := by decide

/-- Vector L18, R158. -/
theorem test_ldRA :
    Ends (start [0xED#8, 0x4F#8] (a := 0x85#8)) (fun t =>
      t.main.f == 0x00#8 && atPc t 0x8002#16 0x85#8 9) := by decide

/-- Vector L19, R160. -/
theorem test_ldHalfN :
    Ends ({ start [0xDD#8, 0x26#8, 0x99#8] with ix := 0x1234#16 }) (fun t =>
      t.ix == 0x9934#16 && t.main.f == 0x00#8 && atPc t 0x8003#16 0x02#8 11) := by decide

/-- Vector W1, R170. -/
theorem test_ldDdNn :
    Ends (start [0x01#8, 0x34#8, 0x12#8]) (fun t =>
      t.main.b == 0x12#8 && t.main.c == 0x34#8 && t.main.f == 0x00#8 && atPc t 0x8003#16 0x01#8 10) := by decide

/-- Vector W4, R173. -/
theorem test_ldDdMem :
    Ends (start [0xED#8, 0x5B#8, 0x00#8, 0x90#8] (addr := 0x9000) (data := [0xCD#8, 0xAB#8])) (fun t =>
      t.main.d == 0xAB#8 && t.main.e == 0xCD#8 && t.main.f == 0x00#8 && atPc t 0x8004#16 0x02#8 20) := by decide

/-- Vector W6, R176. -/
theorem test_ldMemDd :
    Ends ({ start [0xED#8, 0x73#8, 0x00#8, 0x90#8] with sp := 0xC0DE#16 }) (fun t =>
      t.main.f == 0x00#8 && t.readByte 0x9000#16 == 0xDE#8 && t.readByte 0x9001#16 == 0xC0#8 &&
      atPc t 0x8004#16 0x02#8 20) := by decide

/-- Vector W7, R177. -/
theorem test_ldMemXy :
    Ends ({ start [0xFD#8, 0x22#8, 0x00#8, 0x90#8] with iy := 0x4321#16 }) (fun t =>
      t.main.f == 0x00#8 && t.readByte 0x9000#16 == 0x21#8 && t.readByte 0x9001#16 == 0x43#8 &&
      atPc t 0x8004#16 0x02#8 20) := by decide

/-- Vector W8, R178. -/
theorem test_ldSpHl :
    Ends (start [0xF9#8] (hl := 0x8888#16)) (fun t =>
      t.sp == 0x8888#16 && t.main.f == 0x00#8 && atPc t 0x8001#16 0x01#8 6) := by decide

/-- Vector W9, R180. -/
theorem test_pushQq :
    Ends (start [0xF5#8] (a := 0x12#8) (f := 0xD7#8)) (fun t =>
      t.sp == 0xBFFE#16 && t.main.f == 0xD7#8 && t.readByte 0xBFFE#16 == 0xD7#8 &&
      t.readByte 0xBFFF#16 == 0x12#8 && atPc t 0x8001#16 0x01#8 11) := by decide

/-- Vector W12, R180. -/
theorem test_pushQq_wraps :
    Ends ({ start [0xC5#8] (bc := 0xABCD#16) with sp := 0x0001#16 }) (fun t =>
      t.sp == 0xFFFF#16 && t.main.f == 0x00#8 && t.readByte 0x0000#16 == 0xAB#8 &&
      t.readByte 0xFFFF#16 == 0xCD#8 && atPc t 0x8001#16 0x01#8 11) := by decide

/-- Vector W10, R182. -/
theorem test_popQq_af :
    Ends ({ start [0xF1#8] (addr := 0xBFFE) (data := [0xFF#8, 0x00#8]) with sp := 0xBFFE#16 }) (fun t =>
      t.sp == 0xC000#16 && t.main.f == 0xFF#8 && atPc t 0x8001#16 0x01#8 10) := by decide

/-- Vector W13, R185. -/
theorem test_exAfAf :
    Ends ({ start [0x08#8] (a := 0x12#8) (f := 0x34#8) with alt := { RegSet.zero with
        a := 0x56#8, f := 0x78#8 } }) (fun t =>
      t.main.a == 0x56#8 && t.alt.a == 0x12#8 && t.alt.f == 0x34#8 && t.main.f == 0x78#8 &&
      atPc t 0x8001#16 0x01#8 4) := by decide

/-- Vector W14, R186. -/
theorem test_exx :
    Ends ({ start [0xD9#8] (bc := 0x0102#16) (de := 0x0304#16) (hl := 0x0506#16) with alt := { RegSet.zero with
        b := 0xAA#8, c := 0xBB#8 } }) (fun t =>
      t.main.b == 0xAA#8 && t.main.c == 0xBB#8 && t.main.d == 0x00#8 && t.main.e == 0x00#8 && t.main.h == 0x00#8 &&
      t.main.l == 0x00#8 && t.alt.b == 0x01#8 && t.alt.c == 0x02#8 && t.alt.d == 0x03#8 && t.alt.e == 0x04#8 &&
      t.alt.h == 0x05#8 && t.alt.l == 0x06#8 && t.main.f == 0x00#8 && atPc t 0x8001#16 0x01#8 4) := by decide

/-- Vector W15, R187. -/
theorem test_exSpHl :
    Ends ({ start [0xE3#8] (hl := 0x1234#16)
        (addr := 0xBFFE) (data := [0x78#8, 0x56#8]) with sp := 0xBFFE#16 }) (fun t =>
      t.main.h == 0x56#8 && t.main.l == 0x78#8 && t.main.f == 0x00#8 && t.readByte 0xBFFE#16 == 0x34#8 &&
      t.readByte 0xBFFF#16 == 0x12#8 && atPc t 0x8001#16 0x01#8 19) := by decide

/-- Vector W16, R188. -/
theorem test_exSpXy :
    Ends ({ start [0xDD#8, 0xE3#8]
        (addr := 0xBFFE) (data := [0x78#8, 0x56#8]) with ix := 0x1234#16, sp := 0xBFFE#16 }) (fun t =>
      t.ix == 0x5678#16 && t.main.f == 0x00#8 && t.readByte 0xBFFE#16 == 0x34#8 &&
      t.readByte 0xBFFF#16 == 0x12#8 && atPc t 0x8002#16 0x02#8 23) := by decide

/-- Vector K1, R200. -/
theorem test_ldi :
    Ends (start [0xED#8, 0xA0#8] (f := 0xC1#8) (bc := 0x0002#16) (de := 0xA000#16) (hl := 0x9000#16)
        (addr := 0x9000) (data := [0x20#8])) (fun t =>
      t.main.c == 0x01#8 && t.main.e == 0x01#8 && t.main.l == 0x01#8 && t.main.f == 0xC5#8 &&
      t.readByte 0xA000#16 == 0x20#8 && atPc t 0x8002#16 0x02#8 16) := by decide

/-- Vector K3, R201. -/
theorem test_ldir_continues :
    Ends (start [0xED#8, 0xB0#8] (bc := 0x0002#16) (de := 0xA000#16) (hl := 0x9000#16)
        (addr := 0x9000) (data := [0x11#8])) (fun t =>
      t.main.c == 0x01#8 && t.main.e == 0x01#8 && t.main.l == 0x01#8 && t.readByte 0xA000#16 == 0x11#8 &&
      atPc t 0x8000#16 0x02#8 21) := by decide

/-- Vector K4, R201. -/
theorem test_ldir_ends :
    Ends (start [0xED#8, 0xB0#8] (bc := 0x0001#16) (de := 0xA000#16) (hl := 0x9000#16)
        (addr := 0x9000) (data := [0x11#8])) (fun t =>
      t.main.c == 0x00#8 && t.main.e == 0x01#8 && t.main.l == 0x01#8 && t.main.f == 0x00#8 &&
      t.readByte 0xA000#16 == 0x11#8 && atPc t 0x8002#16 0x02#8 16) := by decide

/-- Vector K6, R202. -/
theorem test_ldd :
    Ends (start [0xED#8, 0xA8#8] (bc := 0x0003#16) (de := 0xA000#16) (hl := 0x9000#16)
        (addr := 0x9000) (data := [0x22#8])) (fun t =>
      t.main.c == 0x02#8 && t.main.d == 0x9F#8 && t.main.e == 0xFF#8 && t.main.h == 0x8F#8 && t.main.l == 0xFF#8 &&
      t.main.f == 0x24#8 && t.readByte 0xA000#16 == 0x22#8 && atPc t 0x8002#16 0x02#8 16) := by decide

/-- Vector K8, R204. -/
theorem test_cpi :
    Ends (start [0xED#8, 0xA1#8] (a := 0x10#8) (bc := 0x0001#16) (hl := 0x9000#16)
        (addr := 0x9000) (data := [0x01#8])) (fun t =>
      t.main.c == 0x00#8 && t.main.l == 0x01#8 && t.main.f == 0x3A#8 && atPc t 0x8002#16 0x02#8 16) := by decide

/-- Vector K9, R205. -/
theorem test_cpir_continues :
    Ends (start [0xED#8, 0xB1#8] (a := 0x10#8) (bc := 0x0005#16) (hl := 0x9000#16)
        (addr := 0x9000) (data := [0x00#8])) (fun t =>
      t.main.c == 0x04#8 && t.main.l == 0x01#8 && atPc t 0x8000#16 0x02#8 21) := by decide

/-- Vector K10, R205. -/
theorem test_cpir_finds :
    Ends (start [0xED#8, 0xB1#8] (a := 0x10#8) (bc := 0x0005#16) (hl := 0x9000#16)
        (addr := 0x9000) (data := [0x10#8])) (fun t =>
      t.main.c == 0x04#8 && t.main.l == 0x01#8 && t.main.f == 0x46#8 && atPc t 0x8002#16 0x02#8 16) := by decide

/-- Vector K11, R206. -/
theorem test_cpd :
    Ends (start [0xED#8, 0xA9#8] (a := 0x00#8) (bc := 0x0001#16) (hl := 0x9000#16)
        (addr := 0x9000) (data := [0x01#8])) (fun t =>
      t.main.c == 0x00#8 && t.main.h == 0x8F#8 && t.main.l == 0xFF#8 && t.main.f == 0xBA#8 &&
      atPc t 0x8002#16 0x02#8 16) := by decide

/-- Vector K12, R203. -/
theorem test_lddr_absorbed_prefix :
    Ends (start [0xDD#8, 0xED#8, 0xB8#8] (bc := 0x0002#16) (de := 0xA000#16) (hl := 0x9000#16)
        (addr := 0x9000) (data := [0x33#8])) (fun t =>
      t.main.c == 0x01#8 && t.main.d == 0x9F#8 && t.main.e == 0xFF#8 && t.main.h == 0x8F#8 && t.main.l == 0xFF#8 &&
      t.readByte 0xA000#16 == 0x33#8 && atPc t 0x8001#16 0x03#8 25) := by decide

/-- Vector A1, R222. -/
theorem test_addN_overflow :
    Ends (start [0xC6#8, 0x01#8] (a := 0x7F#8)) (fun t =>
      t.main.a == 0x80#8 && t.main.f == 0x94#8 && atPc t 0x8002#16 0x01#8 7) := by decide

/-- Vector A3, R222. -/
theorem test_addR_half :
    Ends (start [0x80#8] (a := 0x0F#8) (bc := 0x0100#16)) (fun t =>
      t.main.a == 0x10#8 && t.main.f == 0x10#8 && atPc t 0x8001#16 0x01#8 4) := by decide

/-- Vector A4, R223. -/
theorem test_adcN :
    Ends (start [0xCE#8, 0x00#8] (a := 0xFF#8) (f := 0x01#8)) (fun t =>
      t.main.a == 0x00#8 && t.main.f == 0x51#8 && atPc t 0x8002#16 0x01#8 7) := by decide

/-- Vector A7, R224. -/
theorem test_subR_overflow :
    Ends (start [0x90#8] (a := 0x80#8) (bc := 0x0100#16)) (fun t =>
      t.main.a == 0x7F#8 && t.main.f == 0x3E#8 && atPc t 0x8001#16 0x01#8 4) := by decide

/-- Vector A8, R225. -/
theorem test_sbcN :
    Ends (start [0xDE#8, 0x01#8] (a := 0x00#8) (f := 0x01#8)) (fun t =>
      t.main.a == 0xFE#8 && t.main.f == 0xBB#8 && atPc t 0x8002#16 0x01#8 7) := by decide

/-- Vector A9, R226. -/
theorem test_andN :
    Ends (start [0xE6#8, 0x0F#8] (a := 0x5A#8)) (fun t =>
      t.main.a == 0x0A#8 && t.main.f == 0x1C#8 && atPc t 0x8002#16 0x01#8 7) := by decide

/-- Vector A10, R227. -/
theorem test_xorR :
    Ends (start [0xAF#8] (a := 0x5A#8) (f := 0xFF#8)) (fun t =>
      t.main.a == 0x00#8 && t.main.f == 0x44#8 && atPc t 0x8001#16 0x01#8 4) := by decide

/-- Vector A11, R228. -/
theorem test_orN :
    Ends (start [0xF6#8, 0x80#8] (a := 0x01#8)) (fun t =>
      t.main.a == 0x81#8 && t.main.f == 0x84#8 && atPc t 0x8002#16 0x01#8 7) := by decide

/-- Vector A12, R229. -/
theorem test_cpN :
    Ends (start [0xFE#8, 0x28#8] (a := 0x10#8)) (fun t =>
      t.main.f == 0xBB#8 && atPc t 0x8002#16 0x01#8 7) := by decide

/-- Vector A14, R222. -/
theorem test_addXyd :
    Ends ({ start [0xDD#8, 0x86#8, 0x05#8] (a := 0x01#8)
        (addr := 0x9005) (data := [0x02#8]) with ix := 0x9000#16 }) (fun t =>
      t.main.a == 0x03#8 && t.main.f == 0x00#8 && atPc t 0x8003#16 0x02#8 19) := by decide

/-- Vector A15, R224. -/
theorem test_subHalf :
    Ends ({ start [0xFD#8, 0x94#8] (a := 0x50#8) with iy := 0x2000#16 }) (fun t =>
      t.main.a == 0x30#8 && t.main.f == 0x22#8 && atPc t 0x8002#16 0x02#8 8) := by decide

/-- Vector A16, R230. -/
theorem test_incR_overflow :
    Ends (start [0x3C#8] (a := 0x7F#8) (f := 0x01#8)) (fun t =>
      t.main.a == 0x80#8 && t.main.f == 0x95#8 && atPc t 0x8001#16 0x01#8 4) := by decide

/-- Vector A18, R231. -/
theorem test_decR_overflow :
    Ends (start [0x3D#8] (a := 0x80#8)) (fun t =>
      t.main.a == 0x7F#8 && t.main.f == 0x3E#8 && atPc t 0x8001#16 0x01#8 4) := by decide

/-- Vector A20, R230. -/
theorem test_incHl :
    Ends (start [0x34#8] (hl := 0x9000#16) (addr := 0x9000) (data := [0x0F#8])) (fun t =>
      t.main.f == 0x10#8 && t.readByte 0x9000#16 == 0x10#8 && atPc t 0x8001#16 0x01#8 11) := by decide

/-- Vector A21, R231. -/
theorem test_decXyd :
    Ends ({ start [0xDD#8, 0x35#8, 0x03#8] (addr := 0x9003) (data := [0x00#8]) with ix := 0x9000#16 }) (fun t =>
      t.main.f == 0xBA#8 && t.readByte 0x9003#16 == 0xFF#8 && atPc t 0x8003#16 0x02#8 23) := by decide

/-- Vector A22, R230. -/
theorem test_incHalf :
    Ends ({ start [0xDD#8, 0x24#8] with ix := 0xFF00#16 }) (fun t =>
      t.ix == 0x0000#16 && t.main.f == 0x50#8 && atPc t 0x8002#16 0x02#8 8) := by decide

/-- Vector G1, R250. -/
theorem test_daa :
    Ends (start [0x27#8] (a := 0x9A#8)) (fun t =>
      t.main.a == 0x00#8 && t.main.f == 0x55#8 && atPc t 0x8001#16 0x01#8 4) := by decide

/-- Vector G2, R250. -/
theorem test_daa_after_sub :
    Ends (start [0x27#8] (a := 0x0F#8) (f := 0x02#8)) (fun t =>
      t.main.a == 0x09#8 && t.main.f == 0x0E#8 && atPc t 0x8001#16 0x01#8 4) := by decide

/-- Vector G5, R251. -/
theorem test_cpl :
    Ends (start [0x2F#8] (a := 0x5A#8)) (fun t =>
      t.main.a == 0xA5#8 && t.main.f == 0x32#8 && atPc t 0x8001#16 0x01#8 4) := by decide

/-- Vector G6, R252. -/
theorem test_neg :
    Ends (start [0xED#8, 0x44#8] (a := 0x01#8)) (fun t =>
      t.main.a == 0xFF#8 && t.main.f == 0xBB#8 && atPc t 0x8002#16 0x02#8 8) := by decide

/-- Vector G7, R252. -/
theorem test_neg_overflow :
    Ends (start [0xED#8, 0x44#8] (a := 0x80#8)) (fun t =>
      t.main.f == 0x87#8 && atPc t 0x8002#16 0x02#8 8) := by decide

/-- Vector G9, R252. -/
theorem test_negDup :
    Ends (start [0xED#8, 0x4C#8] (a := 0x01#8)) (fun t =>
      t.main.a == 0xFF#8 && t.main.f == 0xBB#8 && atPc t 0x8002#16 0x02#8 8) := by decide

/-- Vector G10, R253. -/
theorem test_ccf :
    Ends (start [0x3F#8] (f := 0x01#8)) (fun t =>
      atPc t 0x8001#16 0x01#8 4) := by decide

/-- Vector G11, R254. -/
theorem test_scf :
    Ends (start [0x37#8] (f := 0x00#8)) (fun t =>
      atPc t 0x8001#16 0x01#8 4) := by decide

/-- Vector G13, R257. -/
theorem test_di :
    Ends ({ start [0xF3#8] with iff1 := true, iff2 := true }) (fun t =>
      !t.iff1 && !t.iff2 && t.main.f == 0x00#8 && atPc t 0x8001#16 0x01#8 4) := by decide

/-- Vector G14, R258. -/
theorem test_ei :
    Ends (start [0xFB#8]) (fun t =>
      t.iff1 && t.iff2 && t.main.f == 0x00#8 && atPc t 0x8001#16 0x01#8 4) := by decide

/-- Vector G15, R261. -/
theorem test_im2 :
    Ends (start [0xED#8, 0x5E#8]) (fun t =>
      t.im == .im2 && t.main.f == 0x00#8 && atPc t 0x8002#16 0x02#8 8) := by decide

/-- Vector G16, R259. -/
theorem test_im0Dup :
    Ends ({ start [0xED#8, 0x6E#8] with im := .im2 }) (fun t =>
      t.im == .im0 && t.main.f == 0x00#8 && atPc t 0x8002#16 0x02#8 8) := by decide

/-- Vector G17, R260. -/
theorem test_im1Dup :
    Ends (start [0xED#8, 0x76#8]) (fun t =>
      t.im == .im1 && t.main.f == 0x00#8 && atPc t 0x8002#16 0x02#8 8) := by decide

/-- Vector H1, R270. -/
theorem test_addHlSs :
    Ends (start [0x09#8] (f := 0xC4#8) (bc := 0x0001#16) (hl := 0x0FFF#16)) (fun t =>
      t.main.h == 0x10#8 && t.main.l == 0x00#8 && t.main.f == 0xD4#8 && atPc t 0x8001#16 0x01#8 11) := by decide

/-- Vector H3, R271. -/
theorem test_adcHlSs :
    Ends (start [0xED#8, 0x5A#8] (f := 0x01#8) (de := 0x0000#16) (hl := 0x7FFF#16)) (fun t =>
      t.main.h == 0x80#8 && t.main.l == 0x00#8 && t.main.f == 0x94#8 && atPc t 0x8002#16 0x02#8 15) := by decide

/-- Vector H6, R272. -/
theorem test_sbcHlSs :
    Ends (start [0xED#8, 0x42#8] (f := 0x01#8) (bc := 0x0000#16) (hl := 0x0000#16)) (fun t =>
      t.main.h == 0xFF#8 && t.main.l == 0xFF#8 && t.main.f == 0xBB#8 && atPc t 0x8002#16 0x02#8 15) := by decide

/-- Vector H8, R273. -/
theorem test_addXyPp :
    Ends ({ start [0xFD#8, 0x39#8] with iy := 0x1000#16, sp := 0xF000#16 }) (fun t =>
      t.iy == 0x0000#16 && t.main.f == 0x01#8 && atPc t 0x8002#16 0x02#8 15) := by decide

/-- Vector H9, R274. -/
theorem test_incSs_wraps :
    Ends ({ start [0x33#8] with sp := 0xFFFF#16 }) (fun t =>
      t.sp == 0x0000#16 && t.main.f == 0x00#8 && atPc t 0x8001#16 0x01#8 6) := by decide

/-- Vector H10, R276. -/
theorem test_decSs_wraps :
    Ends (start [0x0B#8] (bc := 0x0000#16)) (fun t =>
      t.main.b == 0xFF#8 && t.main.c == 0xFF#8 && t.main.f == 0x00#8 && atPc t 0x8001#16 0x01#8 6) := by decide

/-- Vector H11, R275. -/
theorem test_incXy :
    Ends ({ start [0xDD#8, 0x23#8] with ix := 0x00FF#16 }) (fun t =>
      t.ix == 0x0100#16 && t.main.f == 0x00#8 && atPc t 0x8002#16 0x02#8 10) := by decide

/-- Vector H12, R277. -/
theorem test_decXy :
    Ends ({ start [0xFD#8, 0x2B#8] with iy := 0x0000#16 }) (fun t =>
      t.iy == 0xFFFF#16 && t.main.f == 0x00#8 && atPc t 0x8002#16 0x02#8 10) := by decide

/-- Vector S1, R285. -/
theorem test_rlca :
    Ends (start [0x07#8] (a := 0x80#8)) (fun t =>
      t.main.a == 0x01#8 && t.main.f == 0x01#8 && atPc t 0x8001#16 0x01#8 4) := by decide

/-- Vector S2, R286. -/
theorem test_rla :
    Ends (start [0x17#8] (a := 0x80#8) (f := 0x00#8)) (fun t =>
      t.main.a == 0x00#8 && t.main.f == 0x01#8 && atPc t 0x8001#16 0x01#8 4) := by decide

/-- Vector S3, R287. -/
theorem test_rrca :
    Ends (start [0x0F#8] (a := 0x01#8) (f := 0xC4#8)) (fun t =>
      t.main.a == 0x80#8 && t.main.f == 0xC5#8 && atPc t 0x8001#16 0x01#8 4) := by decide

/-- Vector S4, R288. -/
theorem test_rra :
    Ends (start [0x1F#8] (a := 0x01#8) (f := 0x01#8)) (fun t =>
      t.main.a == 0x80#8 && t.main.f == 0x01#8 && atPc t 0x8001#16 0x01#8 4) := by decide

/-- Vector S5, R290. -/
theorem test_rlcR :
    Ends (start [0xCB#8, 0x07#8] (a := 0x85#8)) (fun t =>
      t.main.a == 0x0B#8 && t.main.f == 0x09#8 && atPc t 0x8002#16 0x02#8 8) := by decide

/-- Vector S6, R292. -/
theorem test_rlR :
    Ends (start [0xCB#8, 0x10#8] (f := 0x00#8) (bc := 0x8000#16)) (fun t =>
      t.main.b == 0x00#8 && t.main.f == 0x45#8 && atPc t 0x8002#16 0x02#8 8) := by decide

/-- Vector S7, R291. -/
theorem test_rrcR :
    Ends (start [0xCB#8, 0x09#8] (bc := 0x0001#16)) (fun t =>
      t.main.c == 0x80#8 && t.main.f == 0x81#8 && atPc t 0x8002#16 0x02#8 8) := by decide

/-- Vector S8, R293. -/
theorem test_rrR :
    Ends (start [0xCB#8, 0x1A#8] (f := 0x01#8) (de := 0x0100#16)) (fun t =>
      t.main.d == 0x80#8 && t.main.f == 0x81#8 && atPc t 0x8002#16 0x02#8 8) := by decide

/-- Vector S9, R294. -/
theorem test_slaR :
    Ends (start [0xCB#8, 0x23#8] (de := 0x0080#16)) (fun t =>
      t.main.e == 0x00#8 && t.main.f == 0x45#8 && atPc t 0x8002#16 0x02#8 8) := by decide

/-- Vector S10, R295. -/
theorem test_sraR :
    Ends (start [0xCB#8, 0x2C#8] (hl := 0x8100#16)) (fun t =>
      t.main.h == 0xC0#8 && t.main.f == 0x85#8 && atPc t 0x8002#16 0x02#8 8) := by decide

/-- Vector S11, R296. -/
theorem test_sllR :
    Ends (start [0xCB#8, 0x37#8] (a := 0x80#8)) (fun t =>
      t.main.a == 0x01#8 && t.main.f == 0x01#8 && atPc t 0x8002#16 0x02#8 8) := by decide

/-- Vector S12, R297. -/
theorem test_srlR :
    Ends (start [0xCB#8, 0x3D#8] (hl := 0x0001#16)) (fun t =>
      t.main.l == 0x00#8 && t.main.f == 0x45#8 && atPc t 0x8002#16 0x02#8 8) := by decide

/-- Vector S14, R298. -/
theorem test_rlXydR :
    Ends ({ start [0xDD#8, 0xCB#8, 0x02#8, 0x10#8] (f := 0x01#8)
        (addr := 0x9002) (data := [0x80#8]) with ix := 0x9000#16 }) (fun t =>
      t.main.b == 0x01#8 && t.main.f == 0x01#8 && t.readByte 0x9002#16 == 0x01#8 &&
      atPc t 0x8004#16 0x02#8 23) := by decide

/-- Vector S15, R299. -/
theorem test_rld :
    Ends (start [0xED#8, 0x6F#8] (a := 0x12#8) (hl := 0x9000#16) (addr := 0x9000) (data := [0x34#8])) (fun t =>
      t.main.a == 0x13#8 && t.main.f == 0x00#8 && t.readByte 0x9000#16 == 0x42#8 &&
      atPc t 0x8002#16 0x02#8 18) := by decide

/-- Vector S16, R300. -/
theorem test_rrd :
    Ends (start [0xED#8, 0x67#8] (a := 0x12#8) (hl := 0x9000#16) (addr := 0x9000) (data := [0x34#8])) (fun t =>
      t.main.a == 0x14#8 && t.main.f == 0x04#8 && t.readByte 0x9000#16 == 0x23#8 &&
      atPc t 0x8002#16 0x02#8 18) := by decide

/-- Vector B1, R310. -/
theorem test_bitR :
    Ends (start [0xCB#8, 0x7F#8] (a := 0x80#8)) (fun t =>
      t.main.f == 0x90#8 && atPc t 0x8002#16 0x02#8 8) := by decide

/-- Vector B4, R311. -/
theorem test_bitHl :
    Ends (start [0xCB#8, 0x66#8] (hl := 0x9000#16) (addr := 0x9000) (data := [0x10#8])) (fun t =>
      atPc t 0x8002#16 0x02#8 12) := by decide

/-- Vector B5, R312. -/
theorem test_bitXyd :
    Ends ({ start [0xFD#8, 0xCB#8, 0x05#8, 0x76#8]
        (addr := 0x2805) (data := [0x00#8]) with iy := 0x2800#16 }) (fun t =>
      t.main.f == 0x7C#8 && atPc t 0x8004#16 0x02#8 20) := by decide

/-- Vector B6, R313. -/
theorem test_resR :
    Ends (start [0xCB#8, 0xBF#8] (a := 0xFF#8)) (fun t =>
      t.main.a == 0x7F#8 && t.main.f == 0x00#8 && atPc t 0x8002#16 0x02#8 8) := by decide

/-- Vector B8, R314. -/
theorem test_resXydR :
    Ends ({ start [0xDD#8, 0xCB#8, 0x01#8, 0xBF#8]
        (addr := 0x9001) (data := [0xFF#8]) with ix := 0x9000#16 }) (fun t =>
      t.main.a == 0x7F#8 && t.main.f == 0x00#8 && t.readByte 0x9001#16 == 0x7F#8 &&
      atPc t 0x8004#16 0x02#8 23) := by decide

/-- Vector B9, R315. -/
theorem test_setR :
    Ends (start [0xCB#8, 0xC7#8] (a := 0x00#8)) (fun t =>
      t.main.a == 0x01#8 && t.main.f == 0x00#8 && atPc t 0x8002#16 0x02#8 8) := by decide

/-- Vector B10, R316. -/
theorem test_setXydR :
    Ends ({ start [0xFD#8, 0xCB#8, 0x00#8, 0xFA#8]
        (addr := 0x9000) (data := [0x00#8]) with iy := 0x9000#16 }) (fun t =>
      t.main.d == 0x80#8 && t.main.f == 0x00#8 && t.readByte 0x9000#16 == 0x80#8 &&
      atPc t 0x8004#16 0x02#8 23) := by decide

/-- Vector B11, R314. -/
theorem test_resXydR_protected :
    Ends ({ start [0xDD#8, 0xCB#8, 0x00#8, 0x84#8]
        (addr := 0x1000) (data := [0xFF#8]) with ix := 0x1000#16, romSize := 0x4000 }) (fun t =>
      t.main.h == 0xFE#8 && t.main.f == 0x00#8 && t.readByte 0x1000#16 == 0xFF#8 &&
      atPc t 0x8004#16 0x02#8 23) := by decide

/-- Vector J1, R331. -/
theorem test_jpNn :
    Ends (start [0xC3#8, 0x34#8, 0x12#8]) (fun t =>
      t.main.f == 0x00#8 && atPc t 0x1234#16 0x01#8 10) := by decide

/-- Vector J2, R332. -/
theorem test_jpCcNn :
    Ends (start [0xCA#8, 0x34#8, 0x12#8] (f := 0x40#8)) (fun t =>
      t.main.f == 0x40#8 && atPc t 0x1234#16 0x01#8 10) := by decide

/-- Vector J5, R332. -/
theorem test_jpCcNn_not_taken :
    Ends (start [0xFA#8, 0x34#8, 0x12#8] (f := 0x00#8)) (fun t =>
      t.main.f == 0x00#8 && atPc t 0x8003#16 0x01#8 10) := by decide

/-- Vector J6, R333. -/
theorem test_jrE :
    Ends (start [0x18#8, 0xFE#8]) (fun t =>
      t.main.f == 0x00#8 && atPc t 0x8000#16 0x01#8 12) := by decide

/-- Vector J8, R333. -/
theorem test_jrE_backward :
    Ends (start [0x18#8, 0x80#8]) (fun t =>
      t.main.f == 0x00#8 && atPc t 0x7F82#16 0x01#8 12) := by decide

/-- Vector J9, R334. -/
theorem test_jrCcE_not_taken :
    Ends (start [0x38#8, 0xFE#8] (f := 0x00#8)) (fun t =>
      t.main.f == 0x00#8 && atPc t 0x8002#16 0x01#8 7) := by decide

/-- Vector J10, R334. -/
theorem test_jrCcE :
    Ends (start [0x38#8, 0xFE#8] (f := 0x01#8)) (fun t =>
      t.main.f == 0x01#8 && atPc t 0x8000#16 0x01#8 12) := by decide

/-- Vector J11, R335. -/
theorem test_jpHl :
    Ends (start [0xE9#8] (hl := 0x4321#16)) (fun t =>
      t.main.f == 0x00#8 && atPc t 0x4321#16 0x01#8 4) := by decide

/-- Vector J12, R336. -/
theorem test_jpXy :
    Ends ({ start [0xFD#8, 0xE9#8] with iy := 0x1111#16 }) (fun t =>
      t.main.f == 0x00#8 && atPc t 0x1111#16 0x02#8 8) := by decide

/-- Vector J13, R337. -/
theorem test_djnzE_ends :
    Ends (start [0x10#8, 0xFE#8] (bc := 0x0100#16)) (fun t =>
      t.main.b == 0x00#8 && t.main.f == 0x00#8 && atPc t 0x8002#16 0x01#8 8) := by decide

/-- Vector J14, R337. -/
theorem test_djnzE :
    Ends (start [0x10#8, 0xFE#8] (bc := 0x0000#16)) (fun t =>
      t.main.b == 0xFF#8 && t.main.f == 0x00#8 && atPc t 0x8000#16 0x01#8 13) := by decide

/-- Vector J15, R338. -/
theorem test_callNn :
    Ends (start [0xCD#8, 0x34#8, 0x12#8]) (fun t =>
      t.sp == 0xBFFE#16 && t.main.f == 0x00#8 && t.readByte 0xBFFE#16 == 0x03#8 &&
      t.readByte 0xBFFF#16 == 0x80#8 && atPc t 0x1234#16 0x01#8 17) := by decide

/-- Vector J16, R339. -/
theorem test_callCcNn_not_taken :
    Ends (start [0xC4#8, 0x34#8, 0x12#8] (f := 0x40#8)) (fun t =>
      t.main.f == 0x40#8 && atPc t 0x8003#16 0x01#8 10) := by decide

/-- Vector J17, R339. -/
theorem test_callCcNn :
    Ends (start [0xD4#8, 0x34#8, 0x12#8] (f := 0x00#8)) (fun t =>
      t.sp == 0xBFFE#16 && t.main.f == 0x00#8 && t.readByte 0xBFFE#16 == 0x03#8 &&
      t.readByte 0xBFFF#16 == 0x80#8 && atPc t 0x1234#16 0x01#8 17) := by decide

/-- Vector J18, R340. -/
theorem test_ret :
    Ends ({ start [0xC9#8] (addr := 0xBFFE) (data := [0x03#8, 0x80#8]) with sp := 0xBFFE#16 }) (fun t =>
      t.sp == 0xC000#16 && t.main.f == 0x00#8 && atPc t 0x8003#16 0x01#8 10) := by decide

/-- Vector J19, R341. -/
theorem test_retCc :
    Ends ({ start [0xD8#8] (f := 0x01#8)
        (addr := 0xBFFE) (data := [0x03#8, 0x80#8]) with sp := 0xBFFE#16 }) (fun t =>
      t.sp == 0xC000#16 && t.main.f == 0x01#8 && atPc t 0x8003#16 0x01#8 11) := by decide

/-- Vector J20, R341. -/
theorem test_retCc_not_taken :
    Ends ({ start [0xD8#8] (f := 0x00#8)
        (addr := 0xBFFE) (data := [0x03#8, 0x80#8]) with sp := 0xBFFE#16 }) (fun t =>
      t.main.f == 0x00#8 && atPc t 0x8001#16 0x01#8 5) := by decide

/-- Vector J21, R342. -/
theorem test_reti :
    Ends ({ start [0xED#8, 0x4D#8]
        (addr := 0xBFFE) (data := [0x03#8, 0x80#8]) with sp := 0xBFFE#16, iff2 := true }) (fun t =>
      t.sp == 0xC000#16 && t.iff1 && t.main.f == 0x00#8 && atPc t 0x8003#16 0x02#8 14) := by decide

/-- Vector J22, R343. -/
theorem test_retn :
    Ends ({ start [0xED#8, 0x45#8]
        (addr := 0xBFFE) (data := [0x03#8, 0x80#8]) with sp := 0xBFFE#16, iff1 := false, iff2 := true }) (fun t =>
      t.sp == 0xC000#16 && t.iff1 && t.main.f == 0x00#8 && atPc t 0x8003#16 0x02#8 14) := by decide

/-- Vector J23, R343. -/
theorem test_retnDup :
    Ends ({ start [0xED#8, 0x7D#8]
        (addr := 0xBFFE) (data := [0x03#8, 0x80#8]) with sp := 0xBFFE#16, iff2 := false, iff1 := true }) (fun t =>
      t.sp == 0xC000#16 && !t.iff1 && t.main.f == 0x00#8 && atPc t 0x8003#16 0x02#8 14) := by decide

/-- Vector J24, R344. -/
theorem test_rstP :
    Ends (start [0xEF#8]) (fun t =>
      t.sp == 0xBFFE#16 && t.main.f == 0x00#8 && t.readByte 0xBFFE#16 == 0x01#8 &&
      t.readByte 0xBFFF#16 == 0x80#8 && atPc t 0x0028#16 0x01#8 11) := by decide

/-- Vector I1, R361. -/
theorem test_inAN :
    Ends ({ start [0xDB#8, 0xFE#8] (a := 0x7F#8) with inputs := [0xBF#8] }) (fun t =>
      t.main.a == 0xBF#8 && t.main.f == 0x00#8 && atPc t 0x8002#16 0x01#8 11) := by decide

/-- Vector I2, R362. -/
theorem test_inRC :
    Ends ({ start [0xED#8, 0x78#8] (f := 0x01#8) (bc := 0x12FE#16) with inputs := [0x00#8] }) (fun t =>
      t.main.f == 0x45#8 && atPc t 0x8002#16 0x02#8 12) := by decide

/-- Vector I4, R363. -/
theorem test_inFC :
    Ends ({ start [0xED#8, 0x70#8] (a := 0x55#8) (bc := 0x12FE#16) with inputs := [0x80#8] }) (fun t =>
      t.main.f == 0x80#8 && atPc t 0x8002#16 0x02#8 12) := by decide

/-- Vector I5, R364. -/
theorem test_ini :
    Ends ({ start [0xED#8, 0xA2#8] (bc := 0x0110#16) (hl := 0x9000#16) with inputs := [0x42#8] }) (fun t =>
      t.main.b == 0x00#8 && t.main.l == 0x01#8 && t.main.f == 0x44#8 && t.readByte 0x9000#16 == 0x42#8 &&
      atPc t 0x8002#16 0x02#8 16) := by decide

/-- Vector I6, R365. -/
theorem test_inir_continues :
    Ends ({ start [0xED#8, 0xB2#8] (bc := 0x0210#16) (hl := 0x9000#16) with inputs := [0x42#8] }) (fun t =>
      t.main.b == 0x01#8 && t.main.l == 0x01#8 && t.readByte 0x9000#16 == 0x42#8 &&
      atPc t 0x8000#16 0x02#8 21) := by decide

/-- Vector I8, R366. -/
theorem test_ind :
    Ends ({ start [0xED#8, 0xAA#8] (bc := 0x0110#16) (hl := 0x9000#16) with inputs := [0x01#8] }) (fun t =>
      t.main.b == 0x00#8 && t.main.h == 0x8F#8 && t.main.l == 0xFF#8 && t.main.f == 0x44#8 &&
      t.readByte 0x9000#16 == 0x01#8 && atPc t 0x8002#16 0x02#8 16) := by decide

/-- Vector I9, R368. -/
theorem test_outNA :
    Ends (start [0xD3#8, 0xFE#8] (a := 0x12#8)) (fun t =>
      t.main.f == 0x00#8 && t.outHistory == [(0x12FE#16, 0x12#8)] && atPc t 0x8002#16 0x01#8 11) := by decide

/-- Vector I10, R369. -/
theorem test_outCR :
    Ends (start [0xED#8, 0x79#8] (a := 0x07#8) (bc := 0x01FE#16)) (fun t =>
      t.main.f == 0x00#8 && t.outHistory == [(0x01FE#16, 0x07#8)] && atPc t 0x8002#16 0x02#8 12) := by decide

/-- Vector I12, R370. -/
theorem test_outC0 :
    Ends (start [0xED#8, 0x71#8] (bc := 0x01FE#16)) (fun t =>
      t.main.f == 0x00#8 && t.outHistory == [(0x01FE#16, 0x00#8)] && atPc t 0x8002#16 0x02#8 12) := by decide

/-- Vector I13, R371. -/
theorem test_outi :
    Ends (start [0xED#8, 0xA3#8] (bc := 0x0110#16) (hl := 0x9000#16) (addr := 0x9000) (data := [0x80#8])) (fun t =>
      t.main.b == 0x00#8 && t.main.l == 0x01#8 && t.main.f == 0x42#8 && t.outHistory == [(0x0010#16, 0x80#8)] &&
      atPc t 0x8002#16 0x02#8 16) := by decide

/-- Vector I14, R372. -/
theorem test_otir_continues :
    Ends (start [0xED#8, 0xB3#8] (bc := 0x0210#16) (hl := 0x9000#16) (addr := 0x9000) (data := [0x80#8])) (fun t =>
      t.main.b == 0x01#8 && t.main.l == 0x01#8 && t.outHistory == [(0x0110#16, 0x80#8)] &&
      atPc t 0x8000#16 0x02#8 21) := by decide

/-- Vector I15, R373. -/
theorem test_outd :
    Ends (start [0xED#8, 0xAB#8] (bc := 0x0110#16) (hl := 0x9000#16) (addr := 0x9000) (data := [0xFF#8])) (fun t =>
      t.main.b == 0x00#8 && t.main.h == 0x8F#8 && t.main.l == 0xFF#8 && t.main.f == 0x57#8 &&
      t.outHistory == [(0x0010#16, 0xFF#8)] && atPc t 0x8002#16 0x02#8 16) := by decide

/-- Vector I16, R374. -/
theorem test_otdr :
    Ends (start [0xED#8, 0xBB#8] (bc := 0x0110#16) (hl := 0x9000#16) (addr := 0x9000) (data := [0x01#8])) (fun t =>
      t.main.b == 0x00#8 && t.main.h == 0x8F#8 && t.main.l == 0xFF#8 && t.main.f == 0x55#8 &&
      t.outHistory == [(0x0010#16, 0x01#8)] && atPc t 0x8002#16 0x02#8 16) := by decide

/-- Vector N1, R407. -/
theorem test_nmi :
    Ends ({ start [0x00#8] with iff1 := true, iff2 := true, events := [.nmi] }) (fun t =>
      t.sp == 0xBFFE#16 && !t.iff1 && t.main.f == 0x00#8 && t.readByte 0xBFFF#16 == 0x80#8 &&
      atPc t 0x0066#16 0x01#8 11) := by decide

/-- Vector N3, R403, R404. -/
theorem test_int_mode0 :
    Ends ({ start [0x00#8] with iff1 := true, iff2 := true, im := .im0, events := [.int 0xFF#8] }) (fun t =>
      t.sp == 0xBFFE#16 && !t.iff1 && !t.iff2 && t.main.f == 0x00#8 && t.readByte 0xBFFF#16 == 0x80#8 &&
      atPc t 0x0038#16 0x01#8 13) := by decide

/-- Vector N6, R404. -/
theorem test_int_mode1 :
    Ends ({ start [0x00#8] with iff1 := true, iff2 := true, im := .im1, events := [.int 0x00#8] }) (fun t =>
      t.sp == 0xBFFE#16 && !t.iff1 && !t.iff2 && t.main.f == 0x00#8 && t.readByte 0xBFFF#16 == 0x80#8 &&
      atPc t 0x0038#16 0x01#8 13) := by decide

/-- Vector N7, R405. -/
theorem test_int_mode2 :
    Ends ({ start [0x00#8] (addr := 0x9020) (data := [0x34#8, 0x12#8]) with
        iff1 := true, iff2 := true, im := .im2, regI := 0x90#8, events := [.int 0x20#8] }) (fun t =>
      t.sp == 0xBFFE#16 && !t.iff1 && !t.iff2 && t.main.f == 0x00#8 && t.readByte 0xBFFF#16 == 0x80#8 &&
      atPc t 0x1234#16 0x01#8 19) := by decide

/-- Vector N9, R403. -/
theorem test_int_disabled :
    Ends ({ start [0x00#8] with iff1 := false, iff2 := false, im := .im1, events := [.int 0xFF#8] }) (fun t =>
      t.main.f == 0x00#8 && atPc t 0x8001#16 0x01#8 4) := by decide

/-- Vector N10, R403, R448. -/
theorem test_int_in_ei_shadow :
    Ends ({ start [0x00#8] with
        iff1 := true, iff2 := true, im := .im1, eiShadow := true, events := [.int 0xFF#8] }) (fun t =>
      t.main.f == 0x00#8 && atPc t 0x8001#16 0x01#8 4) := by decide

/-- Vector N11, R406. -/
theorem test_idle :
    Ends ({ start [] with iff1 := false, halted := true }) (fun t =>
      t.main.f == 0x00#8 && atPc t 0x8000#16 0x01#8 4) := by decide

/-- Vector N12, R402, R404. -/
theorem test_int_out_of_halt :
    Ends ({ startAt 0x8001 [] with
        iff1 := true, iff2 := true, im := .im1, halted := true, events := [.int 0xFF#8] }) (fun t =>
      t.sp == 0xBFFE#16 && !t.iff1 && !t.iff2 && !t.halted && t.main.f == 0x00#8 &&
      t.readByte 0xBFFE#16 == 0x01#8 && t.readByte 0xBFFF#16 == 0x80#8 && atPc t 0x0038#16 0x01#8 13) := by decide

/-! ### Boundary behaviour of the decoder and of a step -/

/-- A memory whose first `n` bytes are `v`. -/
def filled (n : Nat) (v : Byte) : State := { State.reset with mem := memSetList [] 0 (List.replicate n v) }

theorem filled_reads (n : Nat) (v : Byte) (a : Word) (hn : n ≤ Config.maxAddress) (ha : a.toNat < n) :
    (filled n v).readByte a = v := by
  unfold filled State.readByte
  rw [memGet_memSetList _ _ _ _ (by simpa using hn), if_pos (by simpa using ha)]
  simp [ha]

/-- Vector N5, R404: an accepted mode-0 interrupt whose bus byte is no RST is refused and keeps the state. -/
theorem test_int_refused :
    let s : State := { start [0x00#8] with iff1 := true, iff2 := true, events := [.int 0x00#8] }
    step s = .refused (.im0BusNotRst 0x00#8) ∧
    s.after (step s) = { s with refusedMark := some (.im0BusNotRst 0x00#8) } := ⟨rfl, rfl⟩

/-- R48: a state with a mark has no step but the mark's reason. -/
theorem test_marked : step { State.reset with faultMark := some (.prefixChainUnbounded 5#16) } =
    .fault (.prefixChainUnbounded 5#16) := rfl

/-- R77: an image of 65536 bytes is too large (vector X3). -/
theorem test_image_too_large : loadImage (List.replicate 65536 0#8) .zero State.reset = none := by
  rw [loadImage, List.length_replicate, if_neg (by decide)]

/-! ### Witnesses: a state and operands that meet the hypotheses of each statement -/

theorem witness_DecodeOfEncode : WellFormed (.bitXydDup 3#3 .iy 0xFF#8 .a) := by decide

theorem witness_EncodeOfDecode :
    decodeTemplate 0xDD#8 0x66#8 0x05#8 0x00#8 = .row (.ldRXyd .h .ix 5#8) := by decide

/-- The first clause at a byte of IndexSet, at 0xCB and at a byte that absorbs; the second at the base table's
ends. -/
theorem witness_IndexPrefixAbsorption :
    decodeTemplate 0xDD#8 0x09#8 0#8 0#8 ≠ .absorbed ∧ decodeTemplate 0xFD#8 0xCB#8 0#8 0#8 ≠ .absorbed ∧
    decodeTemplate 0xDD#8 0x00#8 0#8 0#8 = .absorbed ∧ decodeTemplate 0xFD#8 0xDD#8 0#8 0#8 = .absorbed ∧
    decodeTemplate 0x00#8 0#8 0#8 0#8 = .row .nop ∧ decodeTemplate 0xFF#8 0#8 0#8 0#8 = .row (.rstP 7#3) := by
  decide

/-- Vector Q1: every byte of memory is 0xDD. -/
theorem witness_DecodeFaultsOnlyOnPrefixMemory :
    (filled 65536 0xDD#8).unmarked ∧ (filled 65536 0xDD#8).halted = false ∧ noInterrupt (filled 65536 0xDD#8) ∧
    ∀ a, (filled 65536 0xDD#8).readByte a = 0xDD#8 ∨ (filled 65536 0xDD#8).readByte a = 0xFD#8 :=
  ⟨⟨rfl, rfl⟩, rfl, .inl rfl, fun a => .inl (filled_reads _ _ a (Nat.le_refl _) a.isLt)⟩

theorem witness_DecodeSkipsAbsorbedPrefixes :
    decodeAt (start [0xDD#8, 0xFD#8, 0x00#8]).fetch 0x8000#16 = some (2, .nop) := by decide

theorem witness_StepRunsDecodedInstruction :
    let s := start [0x41#8]
    s.unmarked ∧ s.halted = false ∧ noInterrupt s ∧ templateAt s.fetch s.pc = .row (.ldRR .b .c) :=
  ⟨⟨rfl, rfl⟩, rfl, .inl rfl, by decide⟩

/-- With an INT presented that the EI shadow turns away. -/
theorem witness_StepRunsDecodedInstruction_shadow :
    let s : State := { start [0x41#8] with iff1 := true, eiShadow := true, events := [.int 0xFF#8] }
    s.unmarked ∧ s.halted = false ∧ noInterrupt s ∧ templateAt s.fetch s.pc = .row (.ldRR .b .c) :=
  ⟨⟨rfl, rfl⟩, rfl, .inr ⟨⟨0xFF#8, rfl⟩, .inr rfl⟩, by decide⟩

theorem witness_StepRunsAfterAbsorbedPrefixes :
    let s := start [0xDD#8, 0xFD#8, 0x00#8]
    s.unmarked ∧ s.halted = false ∧ noInterrupt s ∧
    (∀ j < 2, templateAt s.fetch (s.pc + BitVec.ofNat 16 j) = .absorbed) ∧
    templateAt s.fetch (s.pc + BitVec.ofNat 16 2) = .row .nop :=
  ⟨⟨rfl, rfl⟩, rfl, .inl rfl, by decide, by decide⟩

theorem witness_MarkedStates :
    ({ State.reset with faultMark := some (.prefixChainUnbounded 0#16) } : State).faultMark =
      some (.prefixChainUnbounded 0#16) ∧
    (let s : State := { State.reset with refusedMark := some (.im0BusNotRst 0#8) };
      s.faultMark = none ∧ s.refusedMark = some (.im0BusNotRst 0#8)) := ⟨rfl, rfl, rfl⟩

theorem witness_HaltedIdleCycle :
    let s : State := { State.reset with halted := true }
    s.unmarked ∧ s.halted = true ∧ noInterrupt s := ⟨⟨rfl, rfl⟩, rfl, .inl rfl⟩

theorem witness_NmiAcceptance :
    let s : State := { State.reset with events := [.nmi, .none] }
    s.unmarked ∧ s.events = .nmi :: [.none] := ⟨⟨rfl, rfl⟩, rfl⟩

/-- The turned-away interrupt by each of IFF1 = 0 and EI_SHADOW = 1; each mode, and in mode 0 the first RST byte
and a byte one bit away from it. -/
theorem witness_MaskableAcceptance :
    (let s : State := { State.reset with events := [.int 0xFF#8] };
      s.unmarked ∧ s.events = .int 0xFF#8 :: [] ∧ (s.iff1 = false ∨ s.eiShadow = true)) ∧
    (let s : State := { State.reset with iff1 := true, eiShadow := true, events := [.int 0xFF#8] };
      s.unmarked ∧ s.events = .int 0xFF#8 :: [] ∧ (s.iff1 = false ∨ s.eiShadow = true)) ∧
    (∀ (m : IntMode) (bus : Byte), let s : State := { State.reset with iff1 := true, im := m, events := [.int bus] };
      s.unmarked ∧ s.events = .int bus :: [] ∧ s.iff1 = true ∧ s.eiShadow = false ∧ s.im = m) ∧
    (0xC7#8 &&& 0xC7#8 = 0xC7#8) ∧ 0xC6#8 &&& 0xC7#8 ≠ 0xC7#8 :=
  ⟨⟨⟨rfl, rfl⟩, rfl, .inl rfl⟩, ⟨⟨rfl, rfl⟩, rfl, .inr rfl⟩, fun _ _ => ⟨⟨rfl, rfl⟩, rfl, rfl, rfl, rfl⟩, by decide,
    by decide⟩

/-- `LD R,A` and another instruction: the two cases of RefreshAndShadow; the completion of both is the hypothesis
of every statement on `exec i s = .next t`. -/
theorem witness_CostOfEveryInstruction : ∃ t, exec .ldir State.reset = .next t := ⟨_, rfl⟩

theorem witness_RefreshAndShadow :
    (∃ t, exec .ldRA State.reset = .next t) ∧ ∃ t, exec .ei State.reset = .next t := ⟨⟨_, rfl⟩, ⟨_, rfl⟩⟩

theorem witness_PcAfterNonTransfer :
    (∃ t, exec (.ldXydN .ix 0x80#8 1#8) State.reset = .next t) ∧ transfers (.ldXydN .ix 0x80#8 1#8) = false :=
  ⟨⟨_, rfl⟩, rfl⟩

theorem witness_RegisterFrame :
    (∃ t, exec (.popQq .af) State.reset = .next t) ∧ Piece.b ∉ writes (.popQq .af) := ⟨⟨_, rfl⟩, by decide⟩

theorem witness_FlagsUnaffectedClass :
    (∃ t, exec (.setXydR 7#3 .iy 0x7F#8 .a) State.reset = .next t) ∧
    flagsUnaffected (.setXydR 7#3 .iy 0x7F#8 .a) = true := ⟨⟨_, rfl⟩, rfl⟩

/-- A storing instruction at the address after the bytes it stores, and one that stores nothing. -/
theorem witness_MemoryFrame :
    (∃ t, exec (.pushQq .af) (start []) = .next t) ∧ 0xC000#16 ∉ storesAt (start []) (.pushQq .af) ∧
    (∃ t, exec .nop (start []) = .next t) ∧ 0x4000#16 ∉ storesAt (start []) .nop :=
  ⟨⟨_, rfl⟩, by decide, ⟨_, rfl⟩, by decide⟩

theorem witness_RomNeverWritten :
    let s : State := { start [0x77#8] with romSize := 1 }
    (∃ t, step s = .next t) ∧ (0#16).toNat < s.romSize := ⟨⟨_, rfl⟩, by decide⟩

theorem witness_VideoFlagLatches : ∃ t, step (start [0x77#8] (a := 1#8) (hl := 0x5AFF#16)) = .next t := ⟨_, rfl⟩

theorem reset_inv : State.reset.Inv := ⟨memory_nil_wf, by decide⟩

theorem witness_StepKeepsInv :
    let s := start [0x77#8] (a := 1#8) (hl := 0x5AFF#16)
    s.Inv ∧ ∃ t, step s = .next t := ⟨⟨memSetList_wf (memSetList_wf memory_nil_wf), by decide⟩, ⟨_, rfl⟩⟩

/-- The three clauses at the last protected and the first writable address. -/
theorem witness_ByteWrite :
    let s : State := { State.reset with romSize := 0x4000 }
    (0x3FFF#16).toNat < s.romSize ∧ (s.romSize ≤ (0x4000#16).toNat ∧ s.readByte 0x4000#16 = 0#8) ∧
    s.romSize ≤ (0x4000#16).toNat ∧ s.readByte 0x4000#16 ≠ 1#8 := by decide

theorem witness_WordAccess :
    let s : State := { State.reset with romSize := 0 }
    s.romSize ≤ (0xFFFF#16).toNat ∧ s.romSize ≤ (0xFFFF#16 + 1#16).toNat := by decide

/-- The largest image that fits and the smallest that does not. -/
theorem witness_LoadImageResets :
    (List.replicate 65535 0x76#8).length < 65536 ∧ 65536 ≤ (List.replicate 65536 0x76#8).length := by
  rw [List.length_replicate, List.length_replicate]; decide

theorem witness_DecimalAddition :
    let s := start [] (a := 0x99#8)
    (99 < 100 ∧ 99 < 100) ∧ s.main.a = bcd 99 ∧ ∃ t w, exec (.addN (bcd 99)) s = .next t ∧ exec .daa t = .next w :=
  ⟨by decide, by decide, ⟨_, _, rfl, rfl⟩⟩

/-- The conditions of Jumps, Calls and Returns hold at one of the flag bytes 0x00 and 0xFF and fail at the other. -/
theorem witness_conditions :
    ∀ cc : Cond, (condition cc 0x00#8 = true ∧ condition cc 0xFF#8 = false) ∨
      (condition cc 0x00#8 = false ∧ condition cc 0xFF#8 = true) := by
  intro cc; cases cc <;> decide

/-! ### Launches and the end of a run (R445) -/

/-- The state in which a launch of the image begins, with zeros drawn. -/
def begun (bytes : List Byte) : State := resetFrom bytes .zero State.reset

/-- Program P7 of spec/95_test_vectors.md. -/
def refusedLaunch : Launch := { bytes := [0xED#8, 0x46#8, 0xFB#8, 0x76#8], schedule := [(4, .int 0x00#8)] }

theorem witness_begins : refusedLaunch.legal ∧ refusedLaunch.begins (begun refusedLaunch.bytes) :=
  ⟨by decide, .zero, State.reset, rfl⟩

/-- `HALT` alone: step 1 halts, and `s_1` is final. -/
theorem test_launch_halts : ({ bytes := [0x76#8], schedule := [] } : Launch).endWithin 2 (begun [0x76#8]) = some 1 := by
  decide

/-- With an event before step 2, turned away since IFF1 = 0, `n` must exceed 2: the final state is `s_3`. -/
theorem test_launch_past_schedule :
    ({ bytes := [0x76#8], schedule := [(2, .int 0xFF#8)] } : Launch).endWithin 3 (begun [0x76#8]) = some 3 := by
  decide

/-- Program P7: step 4 refuses the bus byte 0x00, and the run has no final state up to the step after it. -/
theorem test_launch_refused :
    (refusedLaunch.stateAt (begun refusedLaunch.bytes) 4).refusedMark = some (.im0BusNotRst 0x00#8) ∧
    refusedLaunch.endWithin 5 (begun refusedLaunch.bytes) = none := by decide

end Sys2Proof.Tests
end

section
/-! PROOFS. Agreement of two states on the pieces of the register frame, and what each primitive update of the
state leaves unchanged. -/

namespace Sys2Proof.Claims

open Sys2Proof.Machine

variable {p : Piece} {s t u : State}

@[simp] theorem Piece.same_refl (p : Piece) (s : State) : p.Same s s := by
  cases p <;> simp [Piece.Same]

theorem Piece.Same.trans (hst : p.Same s t) (htu : p.Same t u) : p.Same s u := by
  cases p <;> simp_all [Piece.Same]

theorem Piece.same_begin (fmt : Format) (n : Nat) : p.Same s (s.begin fmt n) := by
  cases p <;> simp [Piece.Same]

theorem Piece.same_setPc (v : Word) : p.Same s (s.setPc v) := by
  cases p <;> simp [Piece.Same]

theorem Piece.same_writeByte (a : Word) (v : Byte) : p.Same s (s.writeByte a v) := by
  cases p <;> simp [Piece.Same]

theorem Piece.same_setReg {r : Reg8} (v : Byte) (hp : p ∉ [regPiece r]) : p.Same s (s.setReg r v) := by
  cases r <;> cases p <;> simp_all [Piece.Same, regPiece, RegSet.set]

theorem Piece.same_setBc (v : Word) (hp : p ∉ [.b, .c]) : p.Same s (s.setBc v) := by
  cases p <;> simp_all [Piece.Same]

theorem Piece.same_setDe (v : Word) (hp : p ∉ [.d, .e]) : p.Same s (s.setDe v) := by
  cases p <;> simp_all [Piece.Same]

theorem Piece.same_setHl (v : Word) (hp : p ∉ [.h, .l]) : p.Same s (s.setHl v) := by
  cases p <;> simp_all [Piece.Same]

theorem Piece.same_setAf (v : Word) (hp : p ∉ [.a, .f]) : p.Same s (s.setAf v) := by
  cases p <;> simp_all [Piece.Same]

theorem Piece.same_setSp (v : Word) (hp : p ∉ [.sp]) : p.Same s (s.setSp v) := by
  cases p <;> simp_all [Piece.Same]

theorem Piece.same_setPair {q : Pair} (v : Word) (hp : p ∉ pairPieces q) : p.Same s (s.setPair q v) := by
  cases q with
  | bc => exact Piece.same_setBc v hp
  | de => exact Piece.same_setDe v hp
  | hl => exact Piece.same_setHl v hp
  | sp => exact Piece.same_setSp v hp

theorem Piece.same_setStackPair {q : StackPair} (v : Word) (hp : p ∉ stackPairPieces q) :
    p.Same s (s.setStackPair q v) := by
  cases q with
  | bc => exact Piece.same_setBc v hp
  | de => exact Piece.same_setDe v hp
  | hl => exact Piece.same_setHl v hp
  | af => exact Piece.same_setAf v hp

theorem Piece.same_setXy {x : Index} (v : Word) (hp : p ∉ [xyPiece x]) : p.Same s (s.setXy x v) := by
  cases x <;> cases p <;> simp_all [Piece.Same, xyPiece, State.setXy]

theorem Piece.same_setHalf {x : Index} {hf : Half} (v : Byte) (hp : p ∉ [xyPiece x]) :
    p.Same s (s.setHalf x hf v) := by
  cases hf with
  | hi => exact Piece.same_setXy _ hp
  | lo => exact Piece.same_setXy _ hp

theorem Piece.same_setHreg {x : Index} {r : HReg} (v : Byte) (hp : p ∉ [hregPiece x r]) :
    p.Same s (s.setHreg x r v) := by
  cases r with
  | b | c | d | e | a => exact Piece.same_setReg v hp
  | xh | xl => exact Piece.same_setHalf v hp

theorem Piece.same_setFlags (fl un dr : Flags) (hp : p ∉ [.f]) : p.Same s (s.setFlags fl un dr) := by
  cases p <;> simp_all [Piece.Same]

theorem Piece.same_setIm (m : IntMode) (hp : p ∉ [.im]) : p.Same s (s.setIm m) := by
  cases p <;> simp_all [Piece.Same]

theorem Piece.same_ioTaken (hp : p ∉ [.inputs]) : p.Same s s.ioTaken := by
  cases p <;> simp_all [Piece.Same]

theorem Piece.same_ioWrite (port : Word) (v : Byte) (hp : p ∉ [.output]) : p.Same s (s.ioWrite port v) := by
  cases p <;> simp_all [Piece.Same]

end Sys2Proof.Claims
end

section
/-! PROOFS. The effect of an instruction: the pieces it may write and the byte writes it makes, in their order. Each
operation of the instruction rules has one rule here, and `exec_effect` puts them together for all constructors. -/

namespace Sys2Proof.Claims

open Sys2Proof.Machine

/-- The parts of the state that byte writes read and change are the same in both states. -/
def SameStore (s t : State) : Prop :=
  t.mem = s.mem ∧ t.romSize = s.romSize ∧ t.videoChanged = s.videoChanged

/-- `t` comes from `s` by updates that write only pieces of `ps` and leave memory alone, and by byte writes (R73) at
the addresses `as`, in that order. -/
inductive Effect (ps : List Piece) (s : State) : List Word → State → Prop
  | start : Effect ps s [] s
  | update {as : List Word} {t u : State} (h : Effect ps s as t) (hk : ∀ p ∉ ps, p.Same t u)
      (hm : SameStore t u) : Effect ps s as u
  | store {as : List Word} {t : State} (h : Effect ps s as t) (a : Word) (v : Byte) :
      Effect ps s (as ++ [a]) (t.writeByte a v)

namespace Effect

variable {ps qs : List Piece} {s t u : State} {as : List Word}

/-! ### What an effect says -/

/-- A piece outside `ps` is unchanged. -/
theorem same (h : Effect ps s as t) {p : Piece} (hp : p ∉ ps) : p.Same s t := by
  induction h with
  | start => exact p.same_refl s
  | update _ hk _ ih => exact ih.trans (hk p hp)
  | store _ a v ih => exact ih.trans (p.same_writeByte a v)

/-- The invariant of R47 is kept. -/
theorem keeps_inv (h : Effect ps s as t) (hs : s.Inv) : t.Inv := by
  induction h with
  | start => exact hs
  | update _ _ hm ih =>
    obtain ⟨hmem, hrom, -⟩ := hm
    simpa only [State.Inv, hmem, hrom] using ih
  | store _ a v ih => exact ⟨State.wf_writeByte a v ih.1, by simpa using ih.2⟩

/-! ### One rule per operation -/

/-- An update that writes only the pieces of a part `qs` of `ps`. -/
theorem write (h : Effect ps s as t) (hk : ∀ p ∉ qs, p.Same t u) (hq : qs ⊆ ps) (hm : SameStore t u) :
    Effect ps s as u :=
  h.update (fun p hp => hk p fun hmem => hp (hq hmem)) hm

theorem begin {fmt : Format} {n : Nat} : Effect ps s [] (s.begin fmt n) :=
  start.update (fun _ _ => Piece.same_begin fmt n) ⟨rfl, rfl, rfl⟩

theorem setPc (h : Effect ps s as t) {v : Word} : Effect ps s as (t.setPc v) :=
  h.update (fun _ _ => Piece.same_setPc v) ⟨rfl, rfl, rfl⟩

theorem ifTaken (h : Effect ps s as t) {go : State → State} (hgo : Effect ps s as (go t)) {taken : Bool} :
    Effect ps s as (t.ifTaken taken go) := by
  cases taken with
  | false => exact h
  | true => exact hgo

theorem repeatAt (h : Effect ps s as t) {ia : Word} {again : Bool} : Effect ps s as (t.repeatAt ia again) := by
  cases again with
  | false => exact h
  | true => exact h.setPc

theorem setReg (h : Effect ps s as t) {r : Reg8} {v : Byte}
    (hq : [regPiece r] ⊆ ps := by simp [writes, regPiece]) : Effect ps s as (t.setReg r v) :=
  h.write (fun _ => Piece.same_setReg v) hq ⟨rfl, rfl, rfl⟩

theorem setBc (h : Effect ps s as t) {v : Word} (hq : [.b, .c] ⊆ ps := by simp [writes]) :
    Effect ps s as (t.setBc v) :=
  h.write (fun _ => Piece.same_setBc v) hq ⟨rfl, rfl, rfl⟩

theorem setDe (h : Effect ps s as t) {v : Word} (hq : [.d, .e] ⊆ ps := by simp [writes]) :
    Effect ps s as (t.setDe v) :=
  h.write (fun _ => Piece.same_setDe v) hq ⟨rfl, rfl, rfl⟩

theorem setHl (h : Effect ps s as t) {v : Word} (hq : [.h, .l] ⊆ ps := by simp [writes]) :
    Effect ps s as (t.setHl v) :=
  h.write (fun _ => Piece.same_setHl v) hq ⟨rfl, rfl, rfl⟩

theorem setSp (h : Effect ps s as t) {v : Word} (hq : [.sp] ⊆ ps := by simp [writes]) :
    Effect ps s as (t.setSp v) :=
  h.write (fun _ => Piece.same_setSp v) hq ⟨rfl, rfl, rfl⟩

theorem setPair (h : Effect ps s as t) {q : Pair} {v : Word} (hq : pairPieces q ⊆ ps := by simp [writes]) :
    Effect ps s as (t.setPair q v) :=
  h.write (fun _ => Piece.same_setPair v) hq (by simp [SameStore])

theorem setStackPair (h : Effect ps s as t) {q : StackPair} {v : Word}
    (hq : stackPairPieces q ⊆ ps := by simp [writes]) : Effect ps s as (t.setStackPair q v) :=
  h.write (fun _ => Piece.same_setStackPair v) hq (by simp [SameStore])

theorem setXy (h : Effect ps s as t) {x : Index} {v : Word} (hq : [xyPiece x] ⊆ ps := by simp [writes]) :
    Effect ps s as (t.setXy x v) :=
  h.write (fun _ => Piece.same_setXy v) hq (by simp [SameStore])

theorem setHalf (h : Effect ps s as t) {x : Index} {hf : Half} {v : Byte}
    (hq : [xyPiece x] ⊆ ps := by simp [writes]) : Effect ps s as (t.setHalf x hf v) :=
  h.write (fun _ => Piece.same_setHalf v) hq (by simp [SameStore])

theorem setHreg (h : Effect ps s as t) {x : Index} {r : HReg} {v : Byte}
    (hq : [hregPiece x r] ⊆ ps := by simp [writes]) : Effect ps s as (t.setHreg x r v) :=
  h.write (fun _ => Piece.same_setHreg v) hq (by simp [SameStore])

theorem setFlags (h : Effect ps s as t) {fl un dr : Flags} (hq : [.f] ⊆ ps := by simp [writes]) :
    Effect ps s as (t.setFlags fl un dr) :=
  h.write (fun _ => Piece.same_setFlags fl un dr) hq (by simp [SameStore])

theorem setIm (h : Effect ps s as t) {m : IntMode} (hq : [.im] ⊆ ps := by simp [writes]) :
    Effect ps s as (t.setIm m) :=
  h.write (fun _ => Piece.same_setIm m) hq ⟨rfl, rfl, rfl⟩

theorem ioTaken (h : Effect ps s as t) (hq : [.inputs] ⊆ ps := by simp [writes]) : Effect ps s as t.ioTaken :=
  h.write (fun _ => Piece.same_ioTaken) hq (by simp [SameStore])

theorem ioWrite (h : Effect ps s as t) {port : Word} {v : Byte} (hq : [.output] ⊆ ps := by simp [writes]) :
    Effect ps s as (t.ioWrite port v) :=
  h.write (fun _ => Piece.same_ioWrite port v) hq ⟨rfl, rfl, rfl⟩

theorem writeByte (h : Effect ps s [] t) {a : Word} {v : Byte} : Effect ps s [a] (t.writeByte a v) :=
  h.store a v

/-- A word write is its two byte writes, low byte first (R75). -/
theorem writeWord (h : Effect ps s [] t) {a w : Word} : Effect ps s [a, a + 1#16] (t.writeWord a w) :=
  (h.store a (loByte w)).store (a + 1#16) (hiByte w)

/-- A push stores at SP - 2 and SP - 1 (R189). -/
theorem push (h : Effect ps s [] t) {v : Word} (hq : [.sp] ⊆ ps := by simp [writes]) :
    Effect ps s [t.sp - 2#16, t.sp - 1#16] (t.push v) := by
  have hsp : t.sp - 2#16 + 1#16 = t.sp - 1#16 := by bv_omega
  rw [← hsp]
  exact (h.setSp hq).writeWord

theorem ret (h : Effect ps s as t) (hq : [.sp] ⊆ ps := by simp [writes]) : Effect ps s as t.ret :=
  (h.setSp hq).setPc

theorem retInt (h : Effect [.sp, .iff1] s as t) : Effect [.sp, .iff1] s as t.retInt :=
  h.ret.update (by intro p hp; cases p <;> simp_all [Piece.Same, State.retInt]) ⟨rfl, rfl, rfl⟩

/-! ### Rotates and shifts (R289, R298) -/

theorem rotFlagsOf (h : Effect ps s as t) {op : RotOp} {v : Byte} {c : Bool} (hq : [.f] ⊆ ps := by simp [writes]) :
    Effect ps s as (t.rotFlagsOf op v c) :=
  h.setFlags hq

theorem rotReg {r : Reg8} (h : Effect [regPiece r, .f] s as t) {op : RotOp} :
    Effect [regPiece r, .f] s as (t.rotReg op r) :=
  .rotFlagsOf (h.setReg (by simp))

theorem rotMem (h : Effect [.f] s [] t) {op : RotOp} {a : Word} : Effect [.f] s [a] (t.rotMem op a) :=
  .rotFlagsOf h.writeByte

theorem rotMemCopy {r : Reg8} (h : Effect [regPiece r, .f] s [] t) {op : RotOp} {a : Word} :
    Effect [regPiece r, .f] s [a] (t.rotMemCopy op a r) :=
  .rotFlagsOf (h.writeByte.setReg (by simp))

/-! ### The block operations -/

theorem blockLd (h : Effect [.b, .c, .d, .e, .h, .l, .f] s [] t) {delta : Word} {dr : Flags} :
    Effect [.b, .c, .d, .e, .h, .l, .f] s [t.de] (t.blockLd delta dr) :=
  h.writeByte.setHl.setDe.setBc.setFlags

theorem blockCp (h : Effect [.b, .c, .h, .l, .f] s as t) {delta : Word} {dr : Flags} :
    Effect [.b, .c, .h, .l, .f] s as (t.blockCp delta dr) :=
  h.setHl.setBc.setFlags

theorem blockIn (h : Effect [.b, .h, .l, .f, .inputs] s [] t) {delta : Word} {cDelta : Byte} {dr : Flags} :
    Effect [.b, .h, .l, .f, .inputs] s [t.hl] (t.blockIn delta cDelta dr) :=
  h.ioTaken.writeByte.setReg.setHl.setFlags

theorem blockOut (h : Effect [.b, .h, .l, .f, .output] s as t) {delta : Word} {dr : Flags} :
    Effect [.b, .h, .l, .f, .output] s as (t.blockOut delta dr) :=
  h.setReg.ioWrite.setHl.setFlags

end Effect

/-- `cond(c)` of R330 on the flag byte is the model's condition on its bits. -/
theorem condition_eq_holds (s : State) (cc : Cond) : condition cc s.main.f = s.flags.holds cc := by
  cases cc <;> rfl

/-- Every instruction answers a next state; it writes only the pieces `writes` names, and its byte writes are at the
addresses `storesAt` lists. The alternatives are grouped by the shape of the meaning. -/
theorem exec_effect (i : Instr) (s : State) :
    ∃ t, exec i s = .next t ∧ Effect (writes i) s (storesAt s i) t := by
  cases i with
  | nop | nopEd00 | nopEd80 | nopEdA4 | nopEdC0 | nopEd77 => exact ⟨_, rfl, .begin⟩
  -- loads of a register, an index register or a pair
  | ldRR | ldRN | ldRHl | ldRXyd | ldABc | ldADe | ldAMem | resR | setR => exact ⟨_, rfl, .setReg .begin⟩
  | ldHalf => exact ⟨_, rfl, .setHreg .begin⟩
  | ldHalfN => exact ⟨_, rfl, .setHalf .begin⟩
  | ldDdNn | ldDdMem | incSs | decSs => exact ⟨_, rfl, .setPair .begin⟩
  | ldXyNn | ldXyMem | incXy | decXy => exact ⟨_, rfl, .setXy .begin⟩
  | ldHlMem => exact ⟨_, rfl, .setHl .begin⟩
  | ldSpHl | ldSpXy => exact ⟨_, rfl, .setSp .begin⟩
  | exDeHl => exact ⟨_, rfl, .setHl (.setDe .begin)⟩
  -- stores of a byte or a word, with a register written after them or not
  | ldHlR | ldXydR | ldHlN | ldXydN | ldBcA | ldDeA | ldMemA | resHl | resXyd | setHl | setXyd =>
    exact ⟨_, rfl, .writeByte .begin⟩
  | resXydR | setXydR => exact ⟨_, rfl, .setReg (.writeByte .begin)⟩
  | ldMemHl | ldMemDd | ldMemXy => exact ⟨_, rfl, .writeWord .begin⟩
  | exSpHl => exact ⟨_, rfl, .setHl (.writeWord .begin)⟩
  | exSpXy => exact ⟨_, rfl, .setXy (.writeWord .begin)⟩
  -- the stack
  | pushQq | pushXy => exact ⟨_, rfl, .push .begin⟩
  | popQq => exact ⟨_, rfl, .setStackPair (.setSp .begin)⟩
  | popXy => exact ⟨_, rfl, .setXy (.setSp .begin)⟩
  -- flags, after a register, a pair or a byte of memory
  | cpR | cpN | cpHl | cpXyd | cpHalf | ccf | scf | bitR | bitHl | bitXyd | bitXydDup =>
    exact ⟨_, rfl, .setFlags .begin⟩
  | ldAI | ldAR | addR | addN | addHl | addXyd | addHalf | adcR | adcN | adcHl | adcXyd | adcHalf | subR | subN
  | subHl | subXyd | subHalf | sbcR | sbcN | sbcHl | sbcXyd | sbcHalf | andR | andN | andHl | andXyd | andHalf
  | xorR | xorN | xorHl | xorXyd | xorHalf | orR | orN | orHl | orXyd | orHalf | incR | decR | daa | cpl | neg
  | negDup | rlca | rla | rrca | rra => exact ⟨_, rfl, .setFlags (.setReg .begin)⟩
  | incHalf | decHalf => exact ⟨_, rfl, .setFlags (.setHalf .begin)⟩
  | addHlSs | adcHlSs | sbcHlSs => exact ⟨_, rfl, .setFlags (.setHl .begin)⟩
  | addXyPp => exact ⟨_, rfl, .setFlags (.setXy .begin)⟩
  | incHl | incXyd | decHl | decXyd => exact ⟨_, rfl, .setFlags (.writeByte .begin)⟩
  | rld | rrd => exact ⟨_, rfl, .setFlags (.setReg (.writeByte .begin))⟩
  -- rotates and shifts
  | rlcR | rrcR | rlR | rrR | slaR | sraR | sllR | srlR => exact ⟨_, rfl, .rotReg .begin⟩
  | rlcHl | rlcXyd | rrcHl | rrcXyd | rlHl | rlXyd | rrHl | rrXyd | slaHl | slaXyd | sraHl | sraXyd | sllHl
  | sllXyd | srlHl | srlXyd => exact ⟨_, rfl, .rotMem .begin⟩
  | rlcXydR | rrcXydR | rlXydR | rrXydR | slaXydR | sraXydR | sllXydR | srlXydR =>
    exact ⟨_, rfl, .rotMemCopy .begin⟩
  -- block transfer, search and I/O
  | ldi | ldd => exact ⟨_, rfl, .blockLd .begin⟩
  | ldir | lddr => exact ⟨_, rfl, .repeatAt (.blockLd .begin)⟩
  | cpi | cpd => exact ⟨_, rfl, .blockCp .begin⟩
  | cpir | cpdr => exact ⟨_, rfl, .repeatAt (.blockCp .begin)⟩
  | ini | ind => exact ⟨_, rfl, .blockIn .begin⟩
  | inir | indr => exact ⟨_, rfl, .repeatAt (.blockIn .begin)⟩
  | outi | outd => exact ⟨_, rfl, .blockOut .begin⟩
  | otir | otdr => exact ⟨_, rfl, .repeatAt (.blockOut .begin)⟩
  -- input and output
  | inAN => exact ⟨_, rfl, .setReg (.ioTaken .begin)⟩
  | inRC => exact ⟨_, rfl, .setFlags (.setReg (.ioTaken .begin))⟩
  | inFC => exact ⟨_, rfl, .setFlags (.ioTaken .begin)⟩
  | outNA | outCR | outC0 => exact ⟨_, rfl, .ioWrite .begin⟩
  -- jumps, calls and returns
  | jpNn | jrE | jpHl | jpXy => exact ⟨_, rfl, .setPc .begin⟩
  | jpCcNn | jrCcE => exact ⟨_, rfl, .ifTaken .begin (.setPc .begin)⟩
  | djnzE => exact ⟨_, rfl, .ifTaken (.setReg .begin) (.setPc (.setReg .begin))⟩
  | callNn | rstP => exact ⟨_, rfl, .setPc (.push .begin)⟩
  | callCcNn cc nn =>
    refine ⟨_, rfl, ?_⟩
    rw [storesAt, condition_eq_holds]
    cases s.flags.holds cc with
    | false => exact .begin
    | true => exact .setPc (.push .begin)
  | ret => exact ⟨_, rfl, .ret .begin⟩
  | retCc => exact ⟨_, rfl, .ifTaken .begin (.ret .begin)⟩
  | reti | retn | retnDup => exact ⟨_, rfl, .retInt .begin⟩
  -- updates of the model's fields in place
  | im0 | im0Dup | im1 | im1Dup | im2 | im2Dup => exact ⟨_, rfl, .setIm .begin⟩
  | ldIA | ldRA | exAfAf | exx | halt | di | ei =>
    exact ⟨_, rfl, .update .start
      (by intro p hp; cases p <;> simp_all [Piece.Same, writes]) ⟨rfl, rfl, rfl⟩⟩

/-- The effect of an instruction on the state it answers. -/
theorem effect_of_exec {i : Instr} {s t : State} (h : exec i s = .next t) :
    Effect (writes i) s (storesAt s i) t := by
  obtain ⟨u, hu, he⟩ := exec_effect i s
  obtain rfl : u = t := Host.Outcome.next.inj (hu.symm.trans h)
  exact he

end Sys2Proof.Claims
end

section
/-! PROOFS. The statements about the state: the invariant, the register frame and the flags it leaves, a load of an
image, and the views of the registers. -/

namespace Sys2Proof.Claims

open Sys2Proof.Machine

/-! ### The invariant of R47 -/

theorem inv_push {s : State} (v : Word) (h : s.Inv) : (s.push v).Inv :=
  ⟨State.wf_push v h.1, by simpa using h.2⟩

/-- An acceptance (R402) touches memory by its push only. -/
theorem inv_accept {s : State} (n : Nat) (h : s.Inv) : (s.accept n).Inv :=
  inv_push (s := { s with halted := false, regR := bumpR 1 s.regR }) s.pc h

/-- Settles O22: each kind of step keeps the invariant, an instruction by its effect. -/
theorem stepKeepsInv : Obligations.StepKeepsInv := by
  intro s t hs h
  rcases cycle_cases h with rfl | ⟨n, target, rfl⟩ | rfl | ⟨k, i, -, hrun⟩
  · exact inv_accept (s := s.eventTaken) 11 hs
  · exact inv_accept (s := s.eventTaken) n hs
  · exact hs
  · exact (effect_of_exec hrun).keeps_inv hs

/-! ### The register frame and the flags -/

/-- Settles O17, from the effect of an instruction. -/
theorem registerFrame : Obligations.RegisterFrame :=
  fun _ _ _ _ h hp => (effect_of_exec h).same hp

theorem f_ne_regPiece (r : Reg8) : Piece.f ≠ regPiece r := by cases r <;> decide

theorem f_ne_xyPiece (x : Index) : Piece.f ≠ xyPiece x := by cases x <;> decide

theorem f_ne_hregPiece (x : Index) (r : HReg) : Piece.f ≠ hregPiece x r := by
  cases r with
  | b | c | d | e | a => simp [hregPiece]
  | xh | xl => exact f_ne_xyPiece x

theorem f_not_mem_pairPieces (p : Pair) : Piece.f ∉ pairPieces p := by cases p <;> decide

theorem f_not_mem_stackPairPieces {q : StackPair} (hq : q ≠ .af) : Piece.f ∉ stackPairPieces q := by
  cases q with
  | bc | de | hl => decide
  | af => exact absurd rfl hq

/-- The table `writes` names F for no instruction of the class of R35. -/
theorem f_not_mem_writes {i : Instr} (h : flagsUnaffected i = true) : Piece.f ∉ writes i := by
  cases i with
  | ldRR | ldRN | ldRHl | ldRXyd | resR | resXydR | setR | setXydR => simp [writes, f_ne_regPiece]
  | ldHalf => simp [writes, f_ne_hregPiece]
  | ldHalfN | ldXyNn | ldXyMem | popXy | exSpXy | incXy | decXy => simp [writes, f_ne_xyPiece]
  | ldDdNn | ldDdMem | incSs | decSs => simp [writes, f_not_mem_pairPieces]
  | popQq q =>
    have hq : q ≠ .af := of_decide_eq_true h
    simp [writes, f_not_mem_stackPairPieces hq]
  | ldHlR | ldXydR | ldHlN | ldXydN | ldABc | ldADe | ldAMem | ldBcA | ldDeA | ldMemA | ldIA | ldRA | ldHlMem
  | ldMemHl | ldMemDd | ldMemXy | ldSpHl | ldSpXy | pushQq | pushXy | exDeHl | exx | exSpHl | jpNn | jpCcNn | jrE
  | jrCcE | jpHl | jpXy | djnzE | callNn | callCcNn | ret | retCc | reti | retn | retnDup | rstP | nop | nopEd00
  | nopEd80 | nopEdA4 | nopEdC0 | nopEd77 | halt | di | ei | im0 | im0Dup | im1 | im1Dup | im2 | im2Dup | setHl
  | setXyd | resHl | resXyd | inAN | outNA | outCR | outC0 => simp [writes]
  | _ => cases h

/-- Settles O18: F is outside the pieces the class writes. -/
theorem flagsUnaffectedClass : Obligations.FlagsUnaffectedClass :=
  fun _ _ _ h hi => registerFrame _ _ _ .f h (f_not_mem_writes hi)

/-! ### A load of an image -/

/-- After a load an address reads as its byte of the image, and as 0x00 outside it (R76, R77). -/
theorem readByte_resetFrom {bytes : List Byte} (h : bytes.length < 65536) (dr : ResetDraws) (s : State) (a : Word) :
    (resetFrom bytes dr s).readByte a = bytes.getD a.toNat 0#8 := by
  have hfit : 0 + bytes.length ≤ Config.maxAddress := by rw [Nat.zero_add]; exact h.le
  refine (memGet_memSetList [] bytes 0 a.toNat hfit).trans ?_
  split
  · rfl
  · next hout => exact (List.getD_eq_default _ _ (by omega)).symm

/-- Settles O26: `loadImage` is `resetFrom` on an image that fits and refuses any other. -/
theorem loadImageResets : Obligations.LoadImageResets := by
  intro bytes dr s
  refine ⟨fun h => ⟨resetFrom bytes dr s, if_pos h, readByte_resetFrom h dr s, ?_⟩,
    fun h => if_neg (Nat.not_lt.2 h), fun _ => rfl, rfl⟩
  simp [resetFrom]

/-! ### Views of the registers -/

theorem pair_setPair (s : State) (p : Pair) (v : Word) : (s.setPair p v).pair p = v := by
  cases p with
  | bc | de | hl => exact joinBytes_hi_lo v
  | sp => rfl

theorem stackPair_setStackPair (s : State) (q : StackPair) (v : Word) : (s.setStackPair q v).stackPair q = v := by
  cases q with
  | bc | de | hl | af => exact joinBytes_hi_lo v

theorem reg_setReg (s : State) (r r' : Reg8) (v : Byte) :
    (s.setReg r v).reg r' = if r' = r then v else s.reg r' := by
  by_cases h : r' = r
  · simp [State.reg, h]
  · simp [State.reg, h]

theorem xy_eq_join_halves (s : State) (x : Index) : s.xy x = joinBytes (s.half x .hi) (s.half x .lo) :=
  (joinBytes_hi_lo (s.xy x)).symm

@[simp] theorem xy_setXy (s : State) (x : Index) (v : Word) : (s.setXy x v).xy x = v := by cases x <;> rfl

theorem half_setHalf (s : State) (x : Index) (hf hf' : Half) (v : Byte) :
    (s.setHalf x hf v).half x hf' = if hf' = hf then v else s.half x hf' := by
  cases hf <;> cases hf' <;> simp [State.setHalf, State.half]

/-- Settles O27, view by view. -/
theorem registerViews : Obligations.RegisterViews := fun s =>
  ⟨joinBytes_toNat _ _, joinBytes_toNat _ _, joinBytes_toNat _ _, joinBytes_toNat _ _,
    fun x => by rw [xy_eq_join_halves, joinBytes_toNat],
    pair_setPair s, stackPair_setStackPair s, reg_setReg s, fun r v => RegSet.set_f s.main r v, half_setHalf s,
    ⟨rfl, rfl, rfl, rfl, rfl, rfl, rfl, rfl⟩, Reg8.ofCode_code, Reg8.ofCode_mem⟩

end Sys2Proof.Claims
end

section
/-! PROOFS. What byte writes leave: the bytes, RomSize and the video flag after an effect, the effect of a whole step
(R120), and the statements about the memory frame, write protection (R79) and the video flag (R78). -/

namespace Sys2Proof.Claims

open Sys2Proof.Machine

/-- The model tests the two video windows of R73, one beside the other. -/
theorem inVideo_eq_windows (n : Nat) :
    inVideo n = decide ((0x4000 ≤ n ∧ n < 0x5800) ∨ (0x5800 ≤ n ∧ n < 0x5B00)) := by
  rw [Bool.decide_or, Bool.decide_and, Bool.decide_and]
  rfl

theorem inVideo_iff (n : Nat) : inVideo n = true ↔ 0x4000 ≤ n ∧ n < 0x5B00 := by
  rw [inVideo_eq_windows, decide_eq_true_eq]
  omega

/-- A byte of the video windows reads differently in `t` than in `s` (R78). -/
def VideoByteDiffers (s t : State) : Prop :=
  ∃ a : Word, inVideo a.toNat = true ∧ t.readByte a ≠ s.readByte a

/-- All pieces: an effect that may write any of them says only what its byte writes do. -/
def Piece.every : List Piece :=
  [.a, .f, .b, .c, .d, .e, .h, .l, .altAf, .altRest, .ix, .iy, .sp, .regI, .iff1, .iff2, .im, .halted, .output,
    .inputs, .host]

theorem Piece.mem_every (p : Piece) : p ∈ Piece.every := by cases p <;> decide

namespace Effect

variable {ps : List Piece} {r s t u : State} {as : List Word}

/-! ### The bytes and the flag -/

theorem romSize (h : Effect ps s as t) : t.romSize = s.romSize := by
  induction h with
  | start => rfl
  | update _ _ hm ih => exact hm.2.1.trans ih
  | store _ a v ih => rw [State.writeByte_romSize, ih]

/-- An address that no byte write names reads as before. -/
theorem readByte_of_not_mem (h : Effect ps s as t) {a : Word} (ha : a ∉ as) : t.readByte a = s.readByte a := by
  induction h with
  | start => rfl
  | update _ _ hm ih => rw [State.readByte_congr hm.1, ih ha]
  | store _ b v ih =>
    obtain ⟨has, hab⟩ : a ∉ _ ∧ a ≠ b := by simpa using ha
    rw [State.readByte_writeByte, if_neg fun c => hab c.1, ih has]

/-- An address below RomSize reads as before (R79). -/
theorem readByte_of_protected (h : Effect ps s as t) {a : Word} (ha : a.toNat < s.romSize) :
    t.readByte a = s.readByte a := by
  induction h with
  | start => rfl
  | update _ _ hm ih => rw [State.readByte_congr hm.1, ih]
  | @store as t ht b v ih =>
    have hdropped : ¬ (a = b ∧ t.romSize ≤ b.toNat) := fun ⟨hab, hb⟩ =>
      Nat.not_lt.2 (hab ▸ ht.romSize ▸ hb) ha
    rw [State.readByte_writeByte, if_neg hdropped, ih]

/-- When no address is written twice, the flag is set exactly when it was, or a byte of the windows changed: no
later write can put back the byte an earlier one changed (R78). -/
theorem videoChanged_iff (h : Effect ps s as t) (hnd : as.Nodup) :
    t.videoChanged = true ↔ s.videoChanged = true ∨ VideoByteDiffers s t := by
  induction h with
  | start => simp [VideoByteDiffers]
  | update _ _ hm ih =>
    obtain ⟨hmem, -, hvideo⟩ := hm
    simpa only [hvideo, VideoByteDiffers, State.readByte_congr hmem] using ih hnd
  | @store as t ht a v ih =>
    obtain ⟨has, -, hdisj⟩ := List.nodup_append.1 hnd
    have ha : t.readByte a = s.readByte a :=
      ht.readByte_of_not_mem fun hmem => hdisj a hmem a (List.mem_singleton_self a) rfl
    have hother : ∀ b, b ≠ a → (t.writeByte a v).readByte b = t.readByte b := fun b hb => by
      rw [State.readByte_writeByte, if_neg fun c => hb c.1]
    have hdiff : VideoByteDiffers s (t.writeByte a v) ↔
        VideoByteDiffers s t ∨ inVideo a.toNat = true ∧ (t.writeByte a v).readByte a ≠ t.readByte a := by
      constructor
      · rintro ⟨b, hb, hne⟩
        by_cases hba : b = a
        · subst hba
          exact .inr ⟨hb, ha ▸ hne⟩
        · exact .inl ⟨b, hb, hother b hba ▸ hne⟩
      · rintro (⟨b, hb, hne⟩ | ⟨hin, hne⟩)
        · have hba : b ≠ a := fun e => hne (e ▸ ha)
          exact ⟨b, hb, (hother b hba).symm ▸ hne⟩
        · exact ⟨a, hin, ha ▸ hne⟩
    rw [State.videoChanged_writeByte, Bool.or_eq_true, Bool.and_eq_true, decide_eq_true_eq, ih has, hdiff, or_assoc]

/-! ### Effects that may write every piece -/

/-- An update of anything but memory, RomSize and the video flag. -/
theorem elsewhere (h : Effect Piece.every s as t) (hm : SameStore t u) : Effect Piece.every s as u :=
  h.update (fun p hp => absurd p.mem_every hp) hm

/-- An effect counts from every state with the same memory, RomSize and video flag. -/
theorem of_sameStore (h : Effect ps s as t) (hs : SameStore r s) : Effect Piece.every r as t := by
  induction h with
  | start => exact start.elsewhere hs
  | update _ _ hm ih => exact ih.elsewhere hm
  | store _ a v ih => exact ih.store a v

/-- An acceptance (R402) stores by its push only. -/
theorem accept (n : Nat) : Effect Piece.every s [s.sp - 2#16, s.sp - 1#16] (s.accept n) :=
  have hbefore : Effect Piece.every s [] { s with halted := false, regR := bumpR 1 s.regR } :=
    start.elsewhere ⟨rfl, rfl, rfl⟩
  (hbefore.push (by decide)).elsewhere ⟨rfl, rfl, rfl⟩

end Effect

/-! ### The addresses of one step -/

theorem nodup_word_addresses (a : Word) : [a, a + 1#16].Nodup :=
  List.nodup_cons.2 ⟨fun h => word_succ_ne a (List.mem_singleton.1 h).symm, List.nodup_singleton _⟩

theorem nodup_push_addresses (sp : Word) : [sp - 2#16, sp - 1#16].Nodup := by
  have hsp : sp - 1#16 = sp - 2#16 + 1#16 := by bv_omega
  exact hsp ▸ nodup_word_addresses (sp - 2#16)

/-- No instruction stores to an address twice. -/
theorem storesAt_nodup (s : State) (i : Instr) : (storesAt s i).Nodup := by
  cases i with
  | ldMemHl | ldMemDd | ldMemXy | exSpHl | exSpXy => exact nodup_word_addresses _
  | pushQq | pushXy | callNn | rstP => exact nodup_push_addresses s.sp
  | callCcNn cc =>
    rw [storesAt]
    split
    · exact nodup_push_addresses s.sp
    · exact List.nodup_nil
  | _ => simp [storesAt]

/-- Every step that answers a next state changes memory and the video flag by byte writes at distinct addresses
only: those of the instruction, or the push of an acceptance. -/
theorem step_effect {s t : State} (h : step s = .next t) :
    ∃ as : List Word, as.Nodup ∧ Effect Piece.every s as t := by
  have htaken : SameStore s s.eventTaken := ⟨rfl, rfl, rfl⟩
  have haccept := fun n => (Effect.accept (s := s.eventTaken) n).of_sameStore htaken
  rcases cycle_cases h with rfl | ⟨n, target, rfl⟩ | rfl | ⟨k, i, -, hrun⟩
  · exact ⟨_, nodup_push_addresses s.sp, (haccept 11).elsewhere ⟨rfl, rfl, rfl⟩⟩
  · exact ⟨_, nodup_push_addresses s.sp, (haccept n).elsewhere ⟨rfl, rfl, rfl⟩⟩
  · exact ⟨[], List.nodup_nil, Effect.start.elsewhere ⟨rfl, rfl, rfl⟩⟩
  · exact ⟨_, storesAt_nodup _ i, (effect_of_exec hrun).of_sameStore ⟨rfl, rfl, rfl⟩⟩

/-! ### The statements -/

/-- Settles O20: no byte write of a step reaches below RomSize, and none writes RomSize. -/
theorem romNeverWritten : Obligations.RomNeverWritten := by
  intro s t h
  obtain ⟨as, -, heffect⟩ := step_effect h
  exact ⟨heffect.romSize, fun a => heffect.readByte_of_protected⟩

/-- Settles O21: the byte writes of a step are at distinct addresses. -/
theorem videoFlagLatches : Obligations.VideoFlagLatches := by
  intro s t h
  obtain ⟨as, hnd, heffect⟩ := step_effect h
  simpa only [VideoByteDiffers, inVideo_iff, and_assoc] using heffect.videoChanged_iff hnd

/-- Settles O19, from the effect of an instruction. -/
theorem memoryFrame : Obligations.MemoryFrame :=
  fun _ _ _ _ h ha => (effect_of_exec h).readByte_of_not_mem ha

/-- Settles O24, case by case of the write (R73). -/
theorem byteWrite : Obligations.ByteWrite := by
  intro s a v
  refine ⟨fun hrom => if_pos hrom, fun hrom hv => ?_, fun hrom hv => ⟨?_, ?_, fun b hb => ?_⟩⟩
  · rw [State.writeByte, if_neg (Nat.not_lt.2 hrom), if_pos hv]
  · have hwrite : s.writeByte a v = { s with
        mem := memSet s.mem a.toNat v, videoChanged := s.videoChanged || inVideo a.toNat } := by
      rw [State.writeByte, if_neg (Nat.not_lt.2 hrom), if_neg hv]
    rw [hwrite, inVideo_eq_windows]
  · rw [State.readByte_writeByte, if_pos ⟨rfl, hrom⟩]
  · rw [State.readByte_writeByte, if_neg fun c => hb c.1]

theorem ofNat_toNat_eq_loByte (w : Word) : BitVec.ofNat 8 w.toNat = loByte w := by
  apply BitVec.eq_of_toNat_eq
  rw [BitVec.toNat_ofNat, loByte_toNat]

theorem ofNat_div_eq_hiByte (w : Word) : BitVec.ofNat 8 (w.toNat / 256) = hiByte w := by
  rw [← hiByte_toNat, BitVec.ofNat_toNat, BitVec.setWidth_eq]

/-- Settles O25: the bytes of a word are its halves in the spec's arithmetic. -/
theorem wordAccess : Obligations.WordAccess := by
  intro s a w
  refine ⟨joinBytes_toNat _ _, ?_, s.readWord_writeWord a w⟩
  rw [ofNat_toNat_eq_loByte, ofNat_div_eq_hiByte, State.writeWord]

/-- Settles O3: each sequence is run through the decoder. -/
theorem specByteSequencesDecode : Obligations.SpecByteSequencesDecode :=
  ⟨rfl, rfl, rfl, rfl, rfl, rfl, rfl, rfl, rfl, rfl, rfl, rfl, rfl, rfl, rfl, rfl⟩

end Sys2Proof.Claims
end

section
/-! PROOFS. From an instruction's meaning to the form `Gives` of a completion, and the statement about IN and OUT. -/

namespace Sys2Proof.Claims

open Sys2Proof.Machine

/-! ### The form of a completion -/

/-- Beginning an instruction is the step over its template, when the format has the template's length and opcode
fetches (R120 to R123). -/
theorem begin_eq_stepOver {bytes : List Byte} {fmt : Format} (hlen : bytes.length = fmt.length)
    (hm1 : fetches bytes = fmt.m1) (n : Nat) (s : State) : s.begin fmt n = stepOver bytes n s := by
  rw [State.begin, stepOver, hlen, hm1, bumpR_eq, refreshed]

/-- A completion, from the state `exec` answers and what holds of it and of the begun state. -/
theorem gives_of_begin {bytes : List Byte} {i : Instr} {s t : State} {n : Nat} {post : State → State → Prop}
    (fmt : Format) (henc : encode i = bytes) (hexec : exec i s = .next t) (hpost : post (s.begin fmt n) t)
    (hlen : bytes.length = fmt.length := by rfl) (hm1 : fetches bytes = fmt.m1 := by rfl) :
    Gives bytes i s n post :=
  ⟨henc, t, hexec, begin_eq_stepOver hlen hm1 n s ▸ hpost⟩

/-! ### The answer of a read (R80) -/

theorem answers_ioAnswer (s : State) (port : Word) : Answers s port (s.ioAnswer port) := by
  rcases s.ioAnswer_cases port with ⟨v, vs, hin, hans, -⟩ | ⟨hin, hans, -⟩
  · simp [Answers, hin, hans]
  · simpa [Answers, hin, hans] using ⟨s.draws, rfl⟩

/-- The whole effect of a read: an answer is used up, or the counter of free values moves on. -/
theorem ioTaken_spec (s : State) : s.ioTaken = { s with inputs := s.inputs.tail, draws := s.ioTaken.draws } := by
  rcases s.ioAnswer_cases 0#16 with ⟨v, vs, hin, -, htaken⟩ | ⟨hin, -, htaken⟩
  · rw [htaken, hin]
    rfl
  · rw [htaken, hin]
    rfl

@[simp] theorem flags_ioTaken (s : State) : s.ioTaken.flags = s.flags := by simp [State.flags]

/-! ### The flags from the byte read (R362) -/

theorem parity_eq_evenOnes (v : Byte) : parity v = evenOnes v := by
  revert v; decide +kernel

theorem parityFlags_eq_resultFlags (old : Flags) (v : Byte) :
    parityFlags old v = resultFlags v false (evenOnes v) false old.c := by
  simp [parityFlags, Flags.szxy, resultFlags, parity_eq_evenOnes, beq_eq_decide]

theorem inFlags_eq_setF (s : State) (v : Byte) : s.inFlags v = s.setF (s.inFlags v).main.f := by
  rw [State.inFlags, State.setFlags_noBits, State.setF_main_f]

theorem flags_inFlags (s : State) (v : Byte) :
    (s.inFlags v).flags = resultFlags v false (evenOnes v) false s.flags.c := by
  rw [State.inFlags, State.setFlags_noBits, State.flags_setF, Flags.ofByte_toByte, parityFlags_eq_resultFlags]

/-! ### The statement -/

/-- Settles O59: each form reads or writes its port once; IN r and IN F then set the flags from the byte. -/
theorem inOut : Obligations.InOut := by
  intro s
  refine ⟨fun n => ?_, fun r => ?_, ?_, fun n => ?_, fun r => ?_, ?_⟩
  · refine gives_of_begin .b2n rfl rfl ⟨_, answers_ioAnswer s (s.portA n), ?_⟩
    rw [ioTaken_spec]
    rfl
  · refine gives_of_begin .ed2 rfl rfl ⟨_, answers_ioAnswer s s.bc, ?_, ?_⟩
    · rw [inFlags_eq_setF, ioTaken_spec]
      rfl
    · simp [flags_inFlags]
  · refine gives_of_begin .ed2 rfl rfl ⟨_, answers_ioAnswer s s.bc, ?_, ?_⟩
    · rw [inFlags_eq_setF, ioTaken_spec]
      rfl
    · simp [flags_inFlags]
  · exact gives_of_begin .b2n rfl rfl rfl
  · exact gives_of_begin .ed2 rfl rfl rfl
  · exact gives_of_begin .ed2 rfl rfl rfl

end Sys2Proof.Claims
end

section
/-! PROOFS. The decoder over its whole tables: which first bytes give a row (R100, R111), and that a row the decoder
finds is well formed and has the bytes it was found at as its template (R116, R119). An opcode byte is taken apart
into its fields `x`, `y` and `z` (R102), and a table is run at each value of them, its operand bytes free. -/

namespace Sys2Proof.Claims

/-! ### The fields of an opcode byte (R102) -/

/-- The values of a 3-bit field. -/
theorem field3_cases {P : BitVec 3 → Prop} (h0 : P 0#3) (h1 : P 1#3) (h2 : P 2#3) (h3 : P 3#3) (h4 : P 4#3)
    (h5 : P 5#3) (h6 : P 6#3) (h7 : P 7#3) (y : BitVec 3) : P y := by
  have hy : y = 0#3 ∨ y = 1#3 ∨ y = 2#3 ∨ y = 3#3 ∨ y = 4#3 ∨ y = 5#3 ∨ y = 6#3 ∨ y = 7#3 := by
    revert y; decide
  rcases hy with rfl | rfl | rfl | rfl | rfl | rfl | rfl | rfl <;> assumption

/-- Every byte is built from its fields, by the value of `x`. -/
theorem opcode_cases {P : Byte → Prop} (h0 : ∀ y z : BitVec 3, P (0#2 ++ y ++ z))
    (h1 : ∀ y z : BitVec 3, P (1#2 ++ y ++ z)) (h2 : ∀ y z : BitVec 3, P (2#2 ++ y ++ z))
    (h3 : ∀ y z : BitVec 3, P (3#2 ++ y ++ z)) (op : Byte) : P op := by
  have hop : opX op ++ opY op ++ opZ op = op := by revert op; decide +kernel
  have hx : opX op = 0#2 ∨ opX op = 1#2 ∨ opX op = 2#2 ∨ opX op = 3#2 := by
    generalize opX op = x
    revert x; decide
  rw [← hop]
  rcases hx with hx | hx | hx | hx <;> rw [hx]
  · exact h0 _ _
  · exact h1 _ _
  · exact h2 _ _
  · exact h3 _ _

/-! ### Which first bytes give a row -/

/-- The base table has a row for every byte but the four prefixes (R100). -/
theorem isSome_decodeBase (op n : Byte) (nn : Word) :
    (decodeBase op n nn).isSome = decide (op ∉ [0xCB#8, 0xDD#8, 0xED#8, 0xFD#8]) := by
  cases op using opcode_cases with
  | h0 y z | h1 y z | h2 y z | h3 y z => cases y using field3_cases <;> cases z using field3_cases <;> rfl

/-- The table after DD or FD has a row for the bytes of IndexSet, and no other (R111). -/
theorem isSome_decodeIndex (xy : Index) (op b2 b3 : Byte) : (decodeIndex xy op b2 b3).isSome = inIndexSet op := by
  cases op using opcode_cases with
  | h0 y z | h1 y z | h2 y z | h3 y z => cases y using field3_cases <;> cases z using field3_cases <;> rfl

/-! ### The decoder by its first byte (R110) -/

theorem decodeTemplate_prefixByte (xy : Index) (b1 b2 b3 : Byte) :
    decodeTemplate xy.prefixByte b1 b2 b3 = decodePrefixed xy b1 b2 b3 := by
  cases xy <;> rfl

theorem decodeTemplate_cb (b1 b2 b3 : Byte) : decodeTemplate 0xCB#8 b1 b2 b3 = .row (decodeCb b1) := rfl

theorem decodeTemplate_ed (b1 b2 b3 : Byte) :
    decodeTemplate 0xED#8 b1 b2 b3 = .row (decodeEd b1 (joinBytes b3 b2)) := rfl

theorem decodeTemplate_of_base {b0 b1 b2 b3 : Byte} {i : Instr} (h : decodeBase b0 b1 (joinBytes b2 b1) = some i) :
    decodeTemplate b0 b1 b2 b3 = .row i := by
  have hb0 : b0 ∉ [0xCB#8, 0xDD#8, 0xED#8, 0xFD#8] := by
    simpa [h] using (isSome_decodeBase b0 b1 (joinBytes b2 b1)).symm
  simp only [List.mem_cons, List.not_mem_nil, or_false, not_or] at hb0
  obtain ⟨hcb, hdd, hed, hfd⟩ := hb0
  simp only [decodeTemplate, if_neg hcb, if_neg hdd, if_neg hed, if_neg hfd, h]

/-- A first byte is DD or FD, CB, ED, or the opcode of a row of the base table. -/
theorem firstByte_cases (b0 n : Byte) (nn : Word) :
    (∃ xy : Index, b0 = xy.prefixByte) ∨ b0 = 0xCB#8 ∨ b0 = 0xED#8 ∨ ∃ i, decodeBase b0 n nn = some i := by
  by_cases hb0 : b0 ∈ [0xCB#8, 0xDD#8, 0xED#8, 0xFD#8]
  · simp only [List.mem_cons, List.not_mem_nil, or_false] at hb0
    rcases hb0 with h | h | h | h
    · exact .inr (.inl h)
    · exact .inl ⟨.ix, h⟩
    · exact .inr (.inr (.inl h))
    · exact .inl ⟨.iy, h⟩
  · refine .inr (.inr (.inr (Option.isSome_iff_exists.1 ?_)))
    rw [isSome_decodeBase, decide_eq_true hb0]

theorem decodeTemplate_of_index {xy : Index} {b1 b2 b3 : Byte} {i : Instr} (h : decodeIndex xy b1 b2 b3 = some i) :
    decodeTemplate xy.prefixByte b1 b2 b3 = .row i := by
  have hcb : b1 ≠ 0xCB#8 := by
    rintro rfl
    exact absurd (isSome_decodeIndex xy 0xCB#8 b2 b3) (by rw [h, Option.isSome_some]; decide)
  rw [decodeTemplate_prefixByte, decodePrefixed, if_neg hcb, h]

theorem decodePrefixed_eq_absorbed_iff (xy : Index) (b1 b2 b3 : Byte) :
    decodePrefixed xy b1 b2 b3 = .absorbed ↔ b1 ≠ 0xCB#8 ∧ inIndexSet b1 = false := by
  rw [← isSome_decodeIndex xy b1 b2 b3, decodePrefixed]
  split
  · next hcb => simp [hcb]
  · next hcb => cases decodeIndex xy b1 b2 b3 <;> simp [hcb]

/-- Settles O4, by the bytes that have a row in the base table and in the DD/FD table. -/
theorem indexPrefixAbsorption : Obligations.IndexPrefixAbsorption := by
  refine ⟨?_, fun p b1 b2 b3 hdd hfd => ?_, by decide +kernel⟩
  · rintro p b1 b2 b3 (rfl | rfl)
    · exact decodePrefixed_eq_absorbed_iff .ix b1 b2 b3
    · exact decodePrefixed_eq_absorbed_iff .iy b1 b2 b3
  · rcases firstByte_cases p b1 (joinBytes b2 b1) with ⟨xy, rfl⟩ | rfl | rfl | ⟨i, hi⟩
    · cases xy with
      | ix => exact absurd rfl hdd
      | iy => exact absurd rfl hfd
    · exact ⟨_, decodeTemplate_cb b1 b2 b3⟩
    · exact ⟨_, decodeTemplate_ed b1 b2 b3⟩
    · exact ⟨i, decodeTemplate_of_base hi⟩

/-! ### The template of a row is the bytes it was found at -/

/-- `i` is well formed and its template is the front of the bytes. -/
def IsTemplate (i : Instr) (bs : List Byte) : Prop := WellFormed i ∧ encode i <+: bs

theorem length_encode (i : Instr) : (encode i).length = i.format.length := by cases i <;> rfl

theorem isTemplate_decodeBase {op b3 : Byte} {nn : Word} {i : Instr} (h : decodeBase op (loByte nn) nn = some i) :
    IsTemplate i [op, loByte nn, hiByte nn, b3] := by
  revert h
  cases op using opcode_cases with
  | h0 y z | h1 y z | h2 y z | h3 y z =>
    cases y using field3_cases <;> cases z using field3_cases <;> rintro ⟨⟩ <;> exact ⟨rfl, _, rfl⟩

theorem isTemplate_decodeCb (op b2 b3 : Byte) : IsTemplate (decodeCb op) [0xCB#8, op, b2, b3] := by
  cases op using opcode_cases with
  | h0 y z | h1 y z | h2 y z | h3 y z =>
    cases y using field3_cases <;> cases z using field3_cases <;> exact ⟨rfl, _, rfl⟩

theorem isTemplate_decodeEd (op : Byte) (nn : Word) :
    IsTemplate (decodeEd op nn) [0xED#8, op, loByte nn, hiByte nn] := by
  cases op using opcode_cases with
  | h0 y z | h1 y z | h2 y z | h3 y z =>
    cases y using field3_cases <;> cases z using field3_cases <;> exact ⟨rfl, _, rfl⟩

theorem isTemplate_decodeIndexCb (xy : Index) (d op : Byte) :
    IsTemplate (decodeIndexCb xy d op) [xy.prefixByte, 0xCB#8, d, op] := by
  cases op using opcode_cases with
  | h0 y z | h1 y z | h2 y z | h3 y z =>
    cases y using field3_cases <;> cases z using field3_cases <;> exact ⟨rfl, _, rfl⟩

/-- The rows with an address operand have `z` 1 or 2; their template holds the halves of the joined word. -/
theorem isTemplate_decodeIndex {xy : Index} {op b2 b3 : Byte} {i : Instr} (h : decodeIndex xy op b2 b3 = some i) :
    IsTemplate i [xy.prefixByte, op, b2, b3] := by
  revert h
  cases op using opcode_cases with
  | h0 y z =>
    cases z using field3_cases with
    | h1 =>
      cases y using field3_cases with
      | h4 => rintro ⟨⟩; exact ⟨rfl, by simp [encode]⟩
      | _ => rintro ⟨⟩ <;> exact ⟨rfl, _, rfl⟩
    | h2 => cases y using field3_cases <;> rintro ⟨⟩ <;> exact ⟨rfl, by simp [encode]⟩
    | _ => cases y using field3_cases <;> rintro ⟨⟩ <;> exact ⟨rfl, _, rfl⟩
  | h1 y z | h2 y z | h3 y z =>
    cases y using field3_cases <;> cases z using field3_cases <;> rintro ⟨⟩ <;> exact ⟨rfl, _, rfl⟩

theorem isTemplate_decodePrefixed {xy : Index} {b1 b2 b3 : Byte} {i : Instr}
    (h : decodePrefixed xy b1 b2 b3 = .row i) : IsTemplate i [xy.prefixByte, b1, b2, b3] := by
  rw [decodePrefixed] at h
  split at h
  · next hcb =>
    obtain rfl := Decoded.row.inj h
    exact hcb ▸ isTemplate_decodeIndexCb xy b2 b3
  · split at h
    · next j hj =>
      obtain rfl := Decoded.row.inj h
      exact isTemplate_decodeIndex hj
    · cases h

/-- A row the decoder finds is well formed, and its template is the front of the four bytes. -/
theorem isTemplate_decodeTemplate {b0 b1 b2 b3 : Byte} {i : Instr} (h : decodeTemplate b0 b1 b2 b3 = .row i) :
    IsTemplate i [b0, b1, b2, b3] := by
  rcases firstByte_cases b0 b1 (joinBytes b2 b1) with ⟨xy, rfl⟩ | rfl | rfl | ⟨j, hj⟩
  · exact isTemplate_decodePrefixed ((decodeTemplate_prefixByte xy b1 b2 b3).symm.trans h)
  · obtain rfl := Decoded.row.inj h
    exact isTemplate_decodeCb b1 b2 b3
  · obtain rfl := Decoded.row.inj h
    simpa using isTemplate_decodeEd b1 (joinBytes b3 b2)
  · obtain rfl := Decoded.row.inj ((decodeTemplate_of_base hj).symm.trans h)
    have hbase : decodeBase b0 (loByte (joinBytes b2 b1)) (joinBytes b2 b1) = some j := by rwa [loByte_join]
    simpa using isTemplate_decodeBase (b3 := b3) hbase

/-- Settles O2, table by table. -/
theorem encodeOfDecode : Obligations.EncodeOfDecode := by
  intro b0 b1 b2 b3 i h
  obtain ⟨hwf, hprefix⟩ := isTemplate_decodeTemplate h
  exact ⟨hwf, length_encode i ▸ List.prefix_iff_eq_take.1 hprefix⟩

end Sys2Proof.Claims
end

section
/-! PROOFS. The decoder reads a well-formed instruction from its template, whatever bytes follow (R110, R116, R119):
one rule per format (R103), from the row its table has at the opcode byte. -/

namespace Sys2Proof.Claims

/-- The bytes, whatever follows them, decode to `i`. -/
def Reads (bs : List Byte) (i : Instr) : Prop := ∀ rest : List Byte, decodeBytes (bs ++ rest) = .row i

namespace Reads

variable {op n d : Byte} {nn : Word} {xy : Index} {i : Instr}

/-! ### One rule per format (R103) -/

theorem b1 (h : ∀ n nn, decodeBase op n nn = some i) : Reads [op] i :=
  fun _ => decodeTemplate_of_base (h _ _)

/-- The formats B2n and B2e. -/
theorem b2 (h : ∀ nn, decodeBase op n nn = some i) : Reads [op, n] i :=
  fun _ => decodeTemplate_of_base (h _)

theorem b3nn (h : decodeBase op (loByte nn) nn = some i) : Reads [op, loByte nn, hiByte nn] i :=
  fun _ => decodeTemplate_of_base ((joinBytes_hi_lo nn).symm ▸ h)

theorem cb2 (h : decodeCb op = i) : Reads [0xCB#8, op] i :=
  fun _ => congrArg Decoded.row h

theorem ed2 (h : ∀ nn, decodeEd op nn = i) : Reads [0xED#8, op] i :=
  fun _ => congrArg Decoded.row (h _)

/-- Only the ED bytes with `x = 1` have an address operand. -/
theorem ed2_operandFree (hx : opX op ≠ 1#2) (h : decodeEd op 0#16 = i) : Reads [0xED#8, op] i :=
  ed2 fun _ => by rw [← h]; simp only [decodeEd, if_neg hx]

theorem ed4nn (h : decodeEd op nn = i) : Reads [0xED#8, op, loByte nn, hiByte nn] i :=
  fun _ => congrArg Decoded.row ((joinBytes_hi_lo nn).symm ▸ h)

theorem x2 (h : ∀ b2 b3, decodeIndex xy op b2 b3 = some i) : Reads [xy.prefixByte, op] i :=
  fun _ => decodeTemplate_of_index (h _ _)

/-- The formats X3d and X3n. -/
theorem x3 (h : ∀ b3, decodeIndex xy op d b3 = some i) : Reads [xy.prefixByte, op, d] i :=
  fun _ => decodeTemplate_of_index (h _)

theorem x4dn (h : decodeIndex xy op d n = some i) : Reads [xy.prefixByte, op, d, n] i :=
  fun _ => decodeTemplate_of_index h

/-- `row` makes the instruction of the address operand. -/
theorem x4nn {row : Word → Instr} (h : ∀ b2 b3, decodeIndex xy op b2 b3 = some (row (joinBytes b3 b2))) :
    Reads [xy.prefixByte, op, loByte nn, hiByte nn] (row nn) :=
  fun _ => decodeTemplate_of_index ((h _ _).trans (congrArg (some ∘ row) (joinBytes_hi_lo nn)))

theorem x4cb (h : decodeIndexCb xy d op = i) : Reads [xy.prefixByte, 0xCB#8, d, op] i :=
  fun _ => (decodeTemplate_prefixByte xy _ _ _).trans (congrArg Decoded.row h)

end Reads

/-- The row of each instruction's opcode byte, format by format; an operand field is read back by its code. -/
theorem reads_encode {i : Instr} (hw : WellFormed i) : Reads (encode i) i := by
  cases i with
  -- format B1
  | ldABc | ldADe | ldBcA | ldDeA | ldSpHl | exDeHl | exAfAf | exx | exSpHl | addHl | adcHl | subHl | sbcHl | andHl
  | xorHl | orHl | cpHl | incHl | decHl | daa | cpl | ccf | scf | nop | halt | di | ei | rlca | rla | rrca | rra
  | jpHl | ret => exact .b1 fun _ _ => rfl
  | ldRHl r | ldHlR r | addR r | adcR r | subR r | sbcR r | andR r | xorR r | orR r | cpR r | incR r | decR r =>
    exact .b1 fun _ _ => by cases r <;> rfl
  | pushQq qq | popQq qq => exact .b1 fun _ _ => by cases qq <;> rfl
  | addHlSs ss | incSs ss | decSs ss => exact .b1 fun _ _ => by cases ss <;> rfl
  | retCc cc => exact .b1 fun _ _ => by cases cc <;> rfl
  | rstP p => exact .b1 fun _ _ => by cases p using field3_cases <;> rfl
  | ldRR r r' => exact .b1 fun _ _ => by simp [decodeBase, decodeBase1]
  -- formats B2n and B2e
  | ldHlN | addN | adcN | subN | sbcN | andN | xorN | orN | cpN | inAN | outNA | jrE | djnzE =>
    exact .b2 fun _ => rfl
  | ldRN r => exact .b2 fun _ => by cases r <;> rfl
  | jrCcE cc => exact .b2 fun _ => by cases cc <;> rfl
  -- format B3nn
  | ldAMem | ldMemA | ldHlMem | ldMemHl | jpNn | callNn => exact .b3nn rfl
  | ldDdNn dd => exact .b3nn (by cases dd <;> rfl)
  | jpCcNn cc | callCcNn cc => exact .b3nn (by cases cc <;> rfl)
  -- format CB2
  | rlcHl | rrcHl | rlHl | rrHl | slaHl | sraHl | sllHl | srlHl => exact .cb2 rfl
  | rlcR r | rrcR r | rlR r | rrR r | slaR r | sraR r | sllR r | srlR r => exact .cb2 (by cases r <;> rfl)
  | bitR | bitHl | resR | resHl | setR | setHl => exact .cb2 (by simp [decodeCb])
  -- formats ED2 and ED4nn
  | ldAI | ldAR | ldIA | ldRA | ldi | ldir | ldd | lddr | cpi | cpir | cpd | cpdr | neg | im0 | im1 | im1Dup | im2
  | im2Dup | rld | rrd | reti | retn | inFC | ini | inir | ind | indr | outC0 | outi | otir | outd | otdr =>
    exact .ed2 fun _ => rfl
  | inRC r | outCR r => exact .ed2 fun _ => by cases r <;> rfl
  | adcHlSs ss | sbcHlSs ss => exact .ed2 fun _ => by cases ss <;> rfl
  | negDup y =>
    cases y using field3_cases with
    | h0 => exact absurd hw (by decide)
    | _ => exact .ed2 fun _ => rfl
  | retnDup y =>
    cases y using field3_cases with
    | h0 | h1 => exact absurd hw (by decide)
    | _ => exact .ed2 fun _ => rfl
  | im0Dup y =>
    cases y using field3_cases with
    | h1 | h4 | h5 => exact .ed2 fun _ => rfl
    | _ => exact absurd hw (by decide)
  | nopEd00 u | nopEd80 u | nopEdC0 u =>
    clear hw
    exact .ed2_operandFree (by decide +revert) (by decide +revert)
  | nopEdA4 u v =>
    clear hw
    exact .ed2_operandFree (by decide +revert) (by decide +revert)
  | nopEd77 u => rcases u.eq_zero_or_eq_one with rfl | rfl <;> exact .ed2 fun _ => rfl
  | ldDdMem dd | ldMemDd _ dd => exact .ed4nn (by cases dd <;> rfl)
  -- the formats after DD or FD
  | ldSpXy | pushXy | popXy | exSpXy | incXy | decXy | jpXy => exact .x2 fun _ _ => rfl
  | addHalf _ hf | adcHalf _ hf | subHalf _ hf | sbcHalf _ hf | andHalf _ hf | xorHalf _ hf | orHalf _ hf
  | cpHalf _ hf | incHalf _ hf | decHalf _ hf => exact .x2 fun _ _ => by cases hf <;> rfl
  | addXyPp _ pp => exact .x2 fun _ _ => by cases pp <;> rfl
  | ldHalf xy r r' =>
    have hhalf : r.isHalf || r'.isHalf := hw
    exact .x2 fun _ _ => by simp [decodeIndex, decodeIndex1, hhalf]
  | addXyd | adcXyd | subXyd | sbcXyd | andXyd | xorXyd | orXyd | cpXyd | incXyd | decXyd => exact .x3 fun _ => rfl
  | ldRXyd r | ldXydR _ _ r => exact .x3 fun _ => by cases r <;> rfl
  | ldHalfN _ hf => exact .x3 fun _ => by cases hf <;> rfl
  | ldXydN => exact .x4dn rfl
  | ldXyNn xy => exact .x4nn (row := .ldXyNn xy) fun _ _ => rfl
  | ldXyMem xy => exact .x4nn (row := .ldXyMem xy) fun _ _ => rfl
  | ldMemXy nn xy => exact .x4nn (row := (.ldMemXy · xy)) fun _ _ => rfl
  -- format X4cb
  | rlcXyd | rrcXyd | rlXyd | rrXyd | slaXyd | sraXyd | sllXyd | srlXyd => exact .x4cb rfl
  | rlcXydR _ _ r | rrcXydR _ _ r | rlXydR _ _ r | rrXydR _ _ r | slaXydR _ _ r | sraXydR _ _ r | sllXydR _ _ r
  | srlXydR _ _ r => exact .x4cb (by cases r <;> rfl)
  | bitXyd | bitXydDup | resXyd | resXydR | setXyd | setXydR => exact .x4cb (by simp [decodeIndexCb])

/-- Settles O1, by the format of the instruction. -/
theorem decodeOfEncode : Obligations.DecodeOfEncode :=
  fun _ rest hw => reads_encode hw rest

end Sys2Proof.Claims
end

section
/-! PROOFS. The decoder's loop over absorbed prefixes (R110, R112, R115, R118), and the step that runs the instruction
it finds (R120). -/

namespace Sys2Proof.Claims

open Sys2Proof.Machine

variable {rd : Word → Byte} {a : Word} {fuel m k : Nat} {i : Instr} {s : State}

/-! ### The loop -/

theorem decodeFrom_of_row (h : templateAt rd (a + BitVec.ofNat 16 m) = .row i) :
    decodeFrom rd a (fuel + 1) m = some (m, i) := by
  rw [templateAt] at h
  rw [decodeFrom, h]

theorem decodeFrom_of_absorbed (h : templateAt rd (a + BitVec.ofNat 16 m) = .absorbed) :
    decodeFrom rd a (fuel + 1) m = decodeFrom rd a fuel (m + 1) := by
  rw [templateAt] at h
  rw [decodeFrom, h]

/-- With `m` prefixes absorbed and `fuel` turns left, the loop ends at the first of its positions that holds a row. -/
theorem decodeFrom_eq_some_iff : decodeFrom rd a fuel m = some (k, i) ↔
    m ≤ k ∧ k < m + fuel ∧ (∀ j, m ≤ j → j < k → templateAt rd (a + BitVec.ofNat 16 j) = .absorbed) ∧
      templateAt rd (a + BitVec.ofNat 16 k) = .row i := by
  induction fuel generalizing m with
  | zero =>
    simp only [decodeFrom, reduceCtorEq, false_iff]
    omega
  | succ fuel ih =>
    cases ht : templateAt rd (a + BitVec.ofNat 16 m) with
    | row j =>
      rw [decodeFrom_of_row ht]
      constructor
      · rintro ⟨⟩
        exact ⟨le_rfl, by omega, fun j hmj hjm => absurd hjm (Nat.not_lt.2 hmj), ht⟩
      · rintro ⟨hmk, -, habs, hrow⟩
        obtain rfl | hlt := hmk.eq_or_lt
        · rw [Decoded.row.inj (ht.symm.trans hrow)]
        · cases ht.symm.trans (habs m le_rfl hlt)
    | absorbed =>
      rw [decodeFrom_of_absorbed ht, ih]
      constructor
      · rintro ⟨hmk, hk, habs, hrow⟩
        refine ⟨by omega, by omega, fun j hmj hjk => ?_, hrow⟩
        obtain rfl | hlt := hmj.eq_or_lt
        · exact ht
        · exact habs j hlt hjk
      · rintro ⟨hmk, hk, habs, hrow⟩
        obtain rfl | hlt := hmk.eq_or_lt
        · cases ht.symm.trans hrow
        · exact ⟨hlt, by omega, fun j hmj => habs j (by omega), hrow⟩

/-- Settles O6: the loop from the first position, with all its turns. -/
theorem decodeSkipsAbsorbedPrefixes : Obligations.DecodeSkipsAbsorbedPrefixes := by
  intro rd a k i
  simpa [decodeAt] using decodeFrom_eq_some_iff (rd := rd) (a := a) (m := 0) (fuel := 65536)

/-! ### Memory that holds only prefixes (R118) -/

/-- Every address is one of the 65536 positions from `a` on. -/
theorem decodeAt_eq_none_iff : decodeAt rd a = none ↔ ∀ x, templateAt rd x = .absorbed := by
  constructor
  · intro hnone
    have habs : ∀ j < 65536, templateAt rd (a + BitVec.ofNat 16 j) = .absorbed := by
      intro j hj
      induction j using Nat.strong_induction_on with
      | _ j ih =>
        cases ht : templateAt rd (a + BitVec.ofNat 16 j) with
        | absorbed => rfl
        | row i =>
          have hsome := (decodeSkipsAbsorbedPrefixes rd a j i).2 ⟨hj, fun l hl => ih l hl (hl.trans hj), ht⟩
          cases hnone.symm.trans hsome
    intro x
    have hx : a + BitVec.ofNat 16 (x - a).toNat = x := by
      rw [BitVec.ofNat_toNat, BitVec.setWidth_eq, add_sub_cancel]
    exact hx ▸ habs (x - a).toNat (x - a).isLt
  · intro habs
    cases hd : decodeAt rd a with
    | none => rfl
    | some found =>
      obtain ⟨k, i⟩ := found
      obtain ⟨-, -, hrow⟩ := (decodeSkipsAbsorbedPrefixes rd a k i).1 hd
      cases (habs _).symm.trans hrow

theorem templateAt_eq_absorbed_forall_iff :
    (∀ x, templateAt rd x = .absorbed) ↔ ∀ x, rd x = 0xDD#8 ∨ rd x = 0xFD#8 := by
  obtain ⟨habsorbs, hrow, -⟩ := indexPrefixAbsorption
  constructor
  · intro habs x
    by_contra hx
    obtain ⟨hdd, hfd⟩ := not_or.1 hx
    obtain ⟨i, hi⟩ := hrow _ (rd (x + 1#16)) (rd (x + 2#16)) (rd (x + 3#16)) hdd hfd
    cases (habs x).symm.trans hi
  · intro hprefix x
    refine (habsorbs _ _ _ _ (hprefix x)).2 ?_
    rcases hprefix (x + 1#16) with hb | hb <;> rw [hb] <;> decide

/-! ### The step -/

/-- Without an accepted interrupt a step that is not halted decodes and runs, its event taken off. -/
theorem step_eq_execute (hu : s.unmarked) (hh : s.halted = false) (hn : noInterrupt s) :
    step s = execute exec s.eventTaken := by
  have hord : ordinary exec s.eventTaken = execute exec s.eventTaken := if_neg (by simp [State.eventTaken, hh])
  rw [step, cycle_unmarked hu, ← hord]
  rcases hn with hnone | ⟨⟨bus, hint⟩, hoff⟩
  · rw [hnone]
    rfl
  · have hdisabled : s.eventTaken.intEnabled = false := by
      rcases hoff with hoff | hoff <;> simp [State.intEnabled, State.eventTaken, hoff]
    rw [hint]
    exact if_neg (by simp [hdisabled])

/-- Settles O5: decode absorbs at every address exactly when each holds DD or FD. -/
theorem decodeFaultsOnlyOnPrefixMemory : Obligations.DecodeFaultsOnlyOnPrefixMemory := by
  have hnone : ∀ (rd : Word → Byte) (a : Word), decodeAt rd a = none ↔ ∀ x, rd x = 0xDD#8 ∨ rd x = 0xFD#8 :=
    fun rd a => decodeAt_eq_none_iff.trans templateAt_eq_absorbed_forall_iff
  refine ⟨hnone, fun s hu hh hn hprefix => ?_⟩
  have hdecode : decodeAt s.eventTaken.fetch s.eventTaken.pc = none := (hnone _ _).2 hprefix
  rw [step_eq_execute hu hh hn, execute, hdecode]
  rfl

/-- Settles O8: decode finds `i` after `k` prefixes, and `absorb` counts them. -/
theorem stepRunsAfterAbsorbedPrefixes : Obligations.StepRunsAfterAbsorbedPrefixes := by
  intro s k i hu hh hn hk habs hrow
  have hdecode : decodeAt s.eventTaken.fetch s.eventTaken.pc = some (k, i) :=
    (decodeSkipsAbsorbedPrefixes _ _ k i).2 ⟨hk, habs, hrow⟩
  rw [step_eq_execute hu hh hn, execute, hdecode]
  simp only [State.absorb, State.eventTaken, bumpR_eq, refreshed]

/-- Settles O7: the step that absorbs nothing. -/
theorem stepRunsDecodedInstruction : Obligations.StepRunsDecodedInstruction := by
  intro s i hu hh hn hrow
  have hrow₀ : templateAt s.fetch (s.pc + BitVec.ofNat 16 0) = .row i := by simpa using hrow
  have hdecode : decodeAt s.eventTaken.fetch s.eventTaken.pc = some (0, i) :=
    (decodeSkipsAbsorbedPrefixes _ _ 0 i).2 ⟨by decide, by simp, hrow₀⟩
  rw [step_eq_execute hu hh hn, execute, hdecode]
  exact congrArg (exec i) s.eventTaken.absorb_zero

end Sys2Proof.Claims
end

section
/-! PROOFS. What every instruction counts beside its rule (R120 to R123): PC, R, T and EI_SHADOW. The operations of
the rules leave the four alone, but for transfers of control, which write PC. -/

namespace Sys2Proof.Claims

open Sys2Proof.Machine

/-- PC, and R, T and EI_SHADOW. -/
def counts (s : State) : Word × Byte × Nat × Bool := (s.pc, s.regR, s.t, s.eiShadow)

section

variable (s : State)

/-! ### One rule per update of the state -/

@[simp] theorem counts_setReg (r : Reg8) (v : Byte) : counts (s.setReg r v) = counts s := rfl
@[simp] theorem counts_setBc (v : Word) : counts (s.setBc v) = counts s := rfl
@[simp] theorem counts_setDe (v : Word) : counts (s.setDe v) = counts s := rfl
@[simp] theorem counts_setHl (v : Word) : counts (s.setHl v) = counts s := rfl
@[simp] theorem counts_setSp (v : Word) : counts (s.setSp v) = counts s := rfl
@[simp] theorem counts_setF (f : Byte) : counts (s.setF f) = counts s := rfl
@[simp] theorem counts_setIm (m : IntMode) : counts (s.setIm m) = counts s := rfl
@[simp] theorem counts_ioWrite (port : Word) (v : Byte) : counts (s.ioWrite port v) = counts s := rfl
@[simp] theorem counts_drop : counts s.drop = counts s := rfl
@[simp] theorem counts_setXy (x : Index) (v : Word) : counts (s.setXy x v) = counts s := by simp [counts]
@[simp] theorem counts_setHalf (x : Index) (hf : Half) (v : Byte) : counts (s.setHalf x hf v) = counts s := by
  simp [counts]
@[simp] theorem counts_setHreg (x : Index) (r : HReg) (v : Byte) : counts (s.setHreg x r v) = counts s := by
  simp [counts]
@[simp] theorem counts_setPair (p : Pair) (v : Word) : counts (s.setPair p v) = counts s := by simp [counts]
@[simp] theorem counts_setStackPair (q : StackPair) (v : Word) : counts (s.setStackPair q v) = counts s := by
  simp [counts]
@[simp] theorem counts_setFlags (fl un dr : Flags) : counts (s.setFlags fl un dr) = counts s := by simp [counts]
@[simp] theorem counts_writeByte (a : Word) (v : Byte) : counts (s.writeByte a v) = counts s := by simp [counts]
@[simp] theorem counts_writeWord (a v : Word) : counts (s.writeWord a v) = counts s := by simp [counts]
@[simp] theorem counts_push (v : Word) : counts (s.push v) = counts s := by simp [counts]
@[simp] theorem counts_ioTaken : counts s.ioTaken = counts s := by simp [counts]

/-! ### The shared operations of the rules -/

@[simp] theorem counts_aluAdd (v : Byte) : counts (s.aluAdd v) = counts s := by simp [State.aluAdd]
@[simp] theorem counts_aluAdc (v : Byte) : counts (s.aluAdc v) = counts s := by simp [State.aluAdc]
@[simp] theorem counts_aluSub (v : Byte) : counts (s.aluSub v) = counts s := by simp [State.aluSub]
@[simp] theorem counts_aluSbc (v : Byte) : counts (s.aluSbc v) = counts s := by simp [State.aluSbc]
@[simp] theorem counts_aluAnd (v : Byte) : counts (s.aluAnd v) = counts s := by simp [State.aluAnd]
@[simp] theorem counts_aluXor (v : Byte) : counts (s.aluXor v) = counts s := by simp [State.aluXor]
@[simp] theorem counts_aluOr (v : Byte) : counts (s.aluOr v) = counts s := by simp [State.aluOr]
@[simp] theorem counts_aluCp (v : Byte) : counts (s.aluCp v) = counts s := by simp [State.aluCp]
@[simp] theorem counts_incFlags (v : Byte) : counts (s.incFlags v) = counts s := by simp [State.incFlags]
@[simp] theorem counts_decFlags (v : Byte) : counts (s.decFlags v) = counts s := by simp [State.decFlags]
@[simp] theorem counts_inFlags (v : Byte) : counts (s.inFlags v) = counts s := by simp [State.inFlags]
@[simp] theorem counts_loadSpecial (v : Byte) : counts (s.loadSpecial v) = counts s := by simp [State.loadSpecial]
@[simp] theorem counts_negate : counts s.negate = counts s := by simp [State.negate]
@[simp] theorem counts_nibbles (a v : Byte) : counts (s.nibbles a v) = counts s := by simp [State.nibbles]
@[simp] theorem counts_rotA (op : RotOp) : counts (s.rotA op) = counts s := by simp [State.rotA]
@[simp] theorem counts_rotFlagsOf (op : RotOp) (v : Byte) (c : Bool) : counts (s.rotFlagsOf op v c) = counts s := by
  simp [State.rotFlagsOf]
@[simp] theorem counts_rotReg (op : RotOp) (r : Reg8) : counts (s.rotReg op r) = counts s := by simp [State.rotReg]
@[simp] theorem counts_rotMem (op : RotOp) (a : Word) : counts (s.rotMem op a) = counts s := by simp [State.rotMem]
@[simp] theorem counts_rotMemCopy (op : RotOp) (a : Word) (r : Reg8) : counts (s.rotMemCopy op a r) = counts s := by
  simp [State.rotMemCopy]
@[simp] theorem counts_testIndexed (b : BitVec 3) (ea : Word) : counts (s.testIndexed b ea) = counts s := by
  simp [State.testIndexed]
@[simp] theorem counts_mapReg (f : Byte → Byte) (r : Reg8) : counts (s.mapReg f r) = counts s := by
  simp [State.mapReg]
@[simp] theorem counts_mapMem (f : Byte → Byte) (a : Word) : counts (s.mapMem f a) = counts s := by
  simp [State.mapMem]
@[simp] theorem counts_mapMemCopy (f : Byte → Byte) (a : Word) (r : Reg8) :
    counts (s.mapMemCopy f a r) = counts s := by
  simp [State.mapMemCopy]
@[simp] theorem counts_blockLd (delta : Word) (dr : Flags) : counts (s.blockLd delta dr) = counts s := by
  simp [State.blockLd]
@[simp] theorem counts_blockCp (delta : Word) (dr : Flags) : counts (s.blockCp delta dr) = counts s := by
  simp [State.blockCp]
@[simp] theorem counts_blockIn (delta : Word) (cDelta : Byte) (dr : Flags) :
    counts (s.blockIn delta cDelta dr) = counts s := by
  simp [State.blockIn]
@[simp] theorem counts_blockOut (delta : Word) (dr : Flags) : counts (s.blockOut delta dr) = counts s := by
  simp [State.blockOut]

/-! ### Transfers of control -/

@[simp] theorem counts_setPc (v : Word) : counts (s.setPc v) = (v, (counts s).2) := rfl
@[simp] theorem counts_snd_jumpRel (e : Byte) : (counts (s.jumpRel e)).2 = (counts s).2 := rfl
@[simp] theorem counts_snd_ret : (counts s.ret).2 = (counts s).2 := rfl
@[simp] theorem counts_snd_retInt : (counts s.retInt).2 = (counts s).2 := rfl
@[simp] theorem counts_snd_call (v : Word) : (counts (s.call v)).2 = (counts s).2 := by simp [State.call]

@[simp] theorem counts_snd_repeatAt (ia : Word) (again : Bool) : (counts (s.repeatAt ia again)).2 = (counts s).2 := by
  cases again <;> rfl

theorem counts_snd_ifTaken {go : State → State} (hgo : (counts (go s)).2 = (counts s).2) (taken : Bool) :
    (counts (s.ifTaken taken go)).2 = (counts s).2 := by
  cases taken with
  | false => rfl
  | true => exact hgo

end

/-! ### Instructions that transfer no control -/

/-- They count as `begin` does with the format and the cost of the row. -/
theorem counts_of_exec {i : Instr} {s t : State} (h : exec i s = .next t) (htr : transfers i = false)
    (hra : i ≠ .ldRA) (hei : i ≠ .ei) : counts t = counts (s.begin i.format (cost s i)) := by
  cases i with
  | ldRA => exact absurd rfl hra
  | ei => exact absurd rfl hei
  | jpNn | jpCcNn | jrE | jrCcE | jpHl | jpXy | djnzE | callNn | callCcNn | ret | retCc | reti | retn | retnDup
  | rstP | ldir | lddr | cpir | cpdr | inir | indr | otir | otdr => cases htr
  | ldIA | exAfAf | exx | halt | di =>
    obtain rfl := Host.Outcome.next.inj h
    rfl
  | _ =>
    obtain rfl := Host.Outcome.next.inj h
    simp [Instr.format, cost]

/-! ### Instructions that transfer control -/

theorem holds_condOfRel (s : State) (cc : RelCond) :
    s.flags.holds (condOfRel cc) = condition (relCondition cc) s.main.f := by
  rw [condition_eq_holds]
  cases cc <;> rfl

theorem sub_bne_zero {w : Nat} (x y : BitVec w) : (x - y != 0#w) = decide (x ≠ y) := by
  rw [Bool.eq_iff_iff, bne_iff_ne, decide_eq_true_eq]
  exact not_congr sub_eq_zero

theorem ldAgain_eq (s : State) : s.ldAgain = decide (s.bc ≠ 1#16) := sub_bne_zero _ _

theorem cpAgain_eq (s : State) : s.cpAgain = decide (s.bc ≠ 1#16 ∧ s.main.a ≠ s.readByte s.hl) := by
  rw [State.cpAgain, sub_bne_zero, sub_bne_zero, Bool.decide_and]

theorem ioAgain_eq (s : State) : s.ioAgain = decide (s.main.b ≠ 1#8) := sub_bne_zero _ _

/-- The transfers write PC only; their cost is the taken or the not taken, the repeating or the final one (R123). -/
theorem counts_snd_of_exec {i : Instr} {s t : State} (h : exec i s = .next t) (htr : transfers i = true) :
    (counts t).2 = (counts (s.begin i.format (cost s i))).2 := by
  cases i with
  | jpNn | jrE | jpHl | jpXy | callNn | ret | reti | retn | retnDup | rstP =>
    obtain rfl := Host.Outcome.next.inj h
    simp [Instr.format, cost]
  | jpCcNn | callCcNn | retCc | jrCcE =>
    obtain rfl := Host.Outcome.next.inj h
    rw [counts_snd_ifTaken _ (by simp)]
    simp [Instr.format, cost, condition_eq_holds, holds_condOfRel]
  | djnzE =>
    obtain rfl := Host.Outcome.next.inj h
    rw [counts_snd_ifTaken _ (by simp)]
    simp [Instr.format, cost, sub_bne_zero]
  | ldir | lddr | cpir | cpdr | inir | indr | otir | otdr =>
    obtain rfl := Host.Outcome.next.inj h
    simp [Instr.format, cost, repeatCost, ldAgain_eq, cpAgain_eq, ioAgain_eq]
  | _ => cases htr

/-! ### Every instruction -/

/-- What the step of an instruction counts; `LD R,A` writes R after the count, and EI sets EI_SHADOW after it is
cleared. -/
structure Counted (i : Instr) (s t : State) : Prop where
  regR_eq : t.regR = if i = .ldRA then s.main.a else bumpR i.format.m1 s.regR
  t_eq : t.t = s.t + cost s i
  eiShadow_eq : t.eiShadow = decide (i = .ei)
  pc_eq : transfers i = false → t.pc = s.pc + BitVec.ofNat 16 i.format.length

theorem counted_of_exec {i : Instr} {s t : State} (h : exec i s = .next t) : Counted i s t := by
  by_cases hra : i = .ldRA
  · subst hra
    obtain rfl := Host.Outcome.next.inj h
    exact ⟨rfl, rfl, rfl, fun _ => rfl⟩
  by_cases hei : i = .ei
  · subst hei
    obtain rfl := Host.Outcome.next.inj h
    exact ⟨rfl, rfl, rfl, fun _ => rfl⟩
  have hcounts : (counts t).2 = (counts (s.begin i.format (cost s i))).2 := by
    cases htr : transfers i with
    | false => rw [counts_of_exec h htr hra hei]
    | true => exact counts_snd_of_exec h htr
  obtain ⟨hr, ht, hshadow⟩ : t.regR = bumpR i.format.m1 s.regR ∧ t.t = s.t + cost s i ∧ t.eiShadow = false := by
    simpa [counts] using hcounts
  exact ⟨by rw [hr, if_neg hra], ht, by rw [hshadow, decide_eq_false hei],
    fun htr => congrArg Prod.fst (counts_of_exec h htr hra hei)⟩

/-! ### The opcode fetches of a template (R122) -/

theorem fetches_cons (b : Byte) (bs : List Byte) :
    fetches (b :: bs) = if b ∈ [0xCB#8, 0xED#8, 0xDD#8, 0xFD#8] then 2 else 1 := rfl

theorem fetches_prefixByte (xy : Index) (bs : List Byte) : fetches (xy.prefixByte :: bs) = 2 := by
  cases xy <;> rfl

theorem fetches_encode (i : Instr) : fetches (encode i) = i.format.m1 := by
  cases i with
  -- a base row with a register, a pair, a condition or a restart code in its opcode
  | ldRR r r' => cases r <;> cases r' <;> rfl
  | ldRHl r | ldHlR r | addR r | adcR r | subR r | sbcR r | andR r | xorR r | orR r | cpR r | incR r | decR r
  | ldRN r => cases r <;> rfl
  | pushQq qq | popQq qq => cases qq <;> rfl
  | addHlSs ss | incSs ss | decSs ss | ldDdNn ss => cases ss <;> rfl
  | retCc cc | jpCcNn cc | callCcNn cc | jrCcE cc => cases cc <;> rfl
  | rstP p => cases p using field3_cases <;> rfl
  -- a row after DD or FD
  | ldRXyd | ldXydR | ldXydN | ldHalf | ldHalfN | ldXyNn | ldXyMem | ldMemXy | ldSpXy | pushXy | popXy | exSpXy
  | addXyd | addHalf | adcXyd | adcHalf | subXyd | subHalf | sbcXyd | sbcHalf | andXyd | andHalf | xorXyd | xorHalf
  | orXyd | orHalf | cpXyd | cpHalf | incXyd | incHalf | decXyd | decHalf | addXyPp | incXy | decXy | rlcXyd
  | rlcXydR | rrcXyd | rrcXydR | rlXyd | rlXydR | rrXyd | rrXydR | slaXyd | slaXydR | sraXyd | sraXydR | sllXyd
  | sllXydR | srlXyd | srlXydR | bitXyd | bitXydDup | resXyd | resXydR | setXyd | setXydR | jpXy =>
    exact fetches_prefixByte _ _
  -- a first byte without a field
  | _ => exact fetches_cons _ _

/-! ### The statements -/

/-- Settles O14, from what an instruction counts. -/
theorem costOfEveryInstruction : Obligations.CostOfEveryInstruction :=
  fun _ _ _ h => (counted_of_exec h).t_eq

/-- Settles O15: the template has as many opcode fetches as the format. -/
theorem refreshAndShadow : Obligations.RefreshAndShadow := by
  intro i s t h
  have hcounted := counted_of_exec h
  refine ⟨fun hra => ?_, fun hra => ?_, hcounted.eiShadow_eq⟩
  · rw [hcounted.regR_eq, if_neg hra, bumpR_eq, fetches_encode, refreshed]
  · rw [hcounted.regR_eq, if_pos hra]

/-- Settles O16: the template is as long as the format. -/
theorem pcAfterNonTransfer : Obligations.PcAfterNonTransfer := by
  intro i s t h htr
  rw [(counted_of_exec h).pc_eq htr, length_encode]

end Sys2Proof.Claims
end

section
/-! PROOFS. The completions of the 8-bit loads: the form `Gives` at an instruction's own format, the address of an
`(XY+d)` operand (R108), and A with the flags after `LD A,I` and `LD A,R` (R155, R156). -/

namespace Sys2Proof.Claims

open Sys2Proof.Machine

/-! ### The form of a completion, at the instruction's own format -/

/-- A completion, from the template, the state `exec` answers and what holds of it and of the begun state. -/
theorem gives_of_exec {bytes : List Byte} {i : Instr} {s t : State} {n : Nat} {post : State → State → Prop}
    (henc : encode i = bytes) (hexec : exec i s = .next t) (hpost : post (s.begin i.format n) t) :
    Gives bytes i s n post :=
  gives_of_begin i.format henc hexec hpost (henc ▸ length_encode i) (henc ▸ fetches_encode i)

/-! ### Addresses and the refresh register in the spec's arithmetic -/

/-- A signed byte added to an address wraps (R108, R109). -/
theorem add_sext16 (w : Word) (d : Byte) : w + sext16 d = BitVec.ofInt 16 (w.toNat + d.toInt) := by
  rw [BitVec.ofInt_add, BitVec.ofInt_natCast, BitVec.ofNat_toNat, BitVec.setWidth_eq]
  rfl

theorem ea_eq_indexed (s : State) (xy : Index) (d : Byte) : s.ea xy d = indexed s xy d := add_sext16 _ _

theorem bumpR_eq_refreshed (k : Nat) (r : Byte) : bumpR k r = refreshed k r := bumpR_eq k r

/-! ### A and the flags from a special register (R155, R156) -/

theorem ldAirFlags_eq_resultFlags (old : Flags) (v : Byte) (iff2 : Bool) :
    ldAirFlags old v iff2 = resultFlags v false iff2 false old.c := by
  simp [ldAirFlags, Flags.szxy, resultFlags, beq_eq_decide]

theorem loadSpecial_eq_setF (s : State) (v : Byte) :
    s.loadSpecial v = (s.setReg .a v).setF (s.loadSpecial v).main.f := by
  rw [State.loadSpecial, State.setFlags_noBits, State.setF_main_f]

theorem flags_loadSpecial (s : State) (v : Byte) :
    (s.loadSpecial v).flags = resultFlags v false s.iff2 false s.flags.c := by
  rw [State.loadSpecial, State.setFlags_noBits, State.flags_setF, Flags.ofByte_toByte, ldAirFlags_eq_resultFlags]

/-! ### The statements -/

/-- Settles O28: each form writes its register with the byte it names, read before the step; an `(XY+d)` operand
stands at the wrapped sum of R108. -/
theorem loadRegister : Obligations.LoadRegister := by
  intro s
  refine ⟨fun r r' => ?_, fun r n => ?_, fun r => ?_, fun r xy d => ?_, ?_, ?_, fun nn => ?_⟩
  · exact gives_of_exec rfl rfl rfl
  · exact gives_of_exec rfl rfl rfl
  · exact gives_of_exec rfl rfl rfl
  · rw [← ea_eq_indexed]
    exact gives_of_exec rfl rfl rfl
  · exact gives_of_exec rfl rfl rfl
  · exact gives_of_exec rfl rfl rfl
  · exact gives_of_exec rfl rfl rfl

/-- Settles O29: each form is one byte write at the address it names; an `(XY+d)` operand stands at the wrapped sum
of R108. -/
theorem storeByte : Obligations.StoreByte := by
  intro s
  refine ⟨fun r => ?_, fun xy d r => ?_, fun n => ?_, fun xy d n => ?_, ?_, ?_, fun nn => ?_⟩
  · exact gives_of_exec rfl rfl rfl
  · rw [← ea_eq_indexed]
    exact gives_of_exec rfl rfl rfl
  · exact gives_of_exec rfl rfl rfl
  · rw [← ea_eq_indexed]
    exact gives_of_exec rfl rfl rfl
  · exact gives_of_exec rfl rfl rfl
  · exact gives_of_exec rfl rfl rfl
  · exact gives_of_exec rfl rfl rfl

/-- Settles O30: the loads of A take the flags from the byte loaded, which for R is its value after the step's two
opcode fetches. -/
theorem loadSpecial : Obligations.LoadSpecial := by
  intro s
  refine ⟨?_, ?_, ?_, ?_⟩
  · exact gives_of_exec rfl rfl ⟨loadSpecial_eq_setF _ _, flags_loadSpecial _ _⟩
  · rw [← bumpR_eq_refreshed]
    exact gives_of_exec rfl rfl ⟨loadSpecial_eq_setF _ _, flags_loadSpecial _ _⟩
  · exact gives_of_exec rfl rfl rfl
  · exact gives_of_exec rfl rfl rfl

/-- Settles O31: a half-register form names its registers by the half-register reading of R104. -/
theorem loadHalf : Obligations.LoadHalf :=
  fun _ => ⟨fun _ _ _ => gives_of_exec rfl rfl rfl, fun _ _ _ => gives_of_exec rfl rfl rfl⟩

end Sys2Proof.Claims
end

section
/-! PROOFS. The completions of the 16-bit loads, the stack and the exchanges: push and pop in the words of R189, and
EX DE,HL register by register (R184). An operand is read from the state before the step, and beginning an instruction
leaves it. -/

namespace Sys2Proof.Claims

open Sys2Proof.Machine

/-! ### The stack (R189) -/

theorem push_eq_pushed (u : State) (v : Word) : u.push v = pushed v u := rfl

theorem drop_eq_popped (u : State) : u.drop = popped u := rfl

/-! ### The exchange of DE and HL (R184) -/

/-- Each pair written with the other's old word is four registers that change places. -/
theorem setDe_hl_setHl_de (u : State) : (u.setDe u.hl).setHl u.de =
    { u with main := { u.main with d := u.main.h, e := u.main.l, h := u.main.d, l := u.main.e } } := by
  simp only [State.setDe, State.setHl, State.hl, State.de, hiByte_join, loByte_join]

/-! ### The statements -/

/-- Settles O32: each form writes its pair, index register or SP with the word it names, read before the step. -/
theorem loadWord : Obligations.LoadWord := by
  intro s
  refine ⟨fun dd nn => ?_, fun xy nn => ?_, fun nn => ?_, fun dd nn => ?_, fun xy nn => ?_, ?_, fun xy => ?_⟩
  · exact gives_of_exec rfl rfl rfl
  · exact gives_of_exec rfl rfl rfl
  · exact gives_of_exec rfl rfl rfl
  · exact gives_of_exec rfl rfl rfl
  · exact gives_of_exec rfl rfl rfl
  · exact gives_of_exec rfl rfl rfl
  · exact gives_of_exec rfl rfl rfl

/-- Settles O33: each form is one word write at `nn`, which is the two byte writes of R75. -/
theorem storeWord : Obligations.StoreWord :=
  fun _ => ⟨fun _ => gives_of_exec rfl rfl rfl, fun _ _ => gives_of_exec rfl rfl rfl,
    fun _ _ => gives_of_exec rfl rfl rfl⟩

/-- Settles O34: a push is `pushed`, and a pop is `popped` with the word at the old SP written to the register. -/
theorem pushPop : Obligations.PushPop := by
  intro s
  refine ⟨fun qq => ?_, fun xy => ?_, fun qq => ?_, fun xy => ?_⟩
  · exact gives_of_exec rfl rfl (push_eq_pushed _ _)
  · exact gives_of_exec rfl rfl (push_eq_pushed _ _)
  · exact gives_of_exec rfl rfl (congrArg (·.setStackPair qq s.top) (drop_eq_popped _))
  · exact gives_of_exec rfl rfl (congrArg (·.setXy xy s.top) (drop_eq_popped _))

/-- Settles O35: EX DE,HL moves both pairs through their words; the other two exchange the sets register by
register. -/
theorem exchangeRegisters : Obligations.ExchangeRegisters :=
  fun _ => ⟨gives_of_exec rfl rfl (setDe_hl_setHl_de _), gives_of_exec rfl rfl rfl, gives_of_exec rfl rfl rfl⟩

/-- Settles O36: the word for the register is read before the write at SP, so a dropped write does not change it. -/
theorem exchangeStackTop : Obligations.ExchangeStackTop :=
  fun _ => ⟨gives_of_exec rfl rfl rfl, fun _ => gives_of_exec rfl rfl rfl⟩

end Sys2Proof.Claims
end

section
/-! PROOFS. The completions of the block transfers and searches (R199 to R207): what their shared operation leaves in
the registers and the flags, then one iteration of it, which a repeating form may ask to run again. -/

namespace Sys2Proof.Claims

open Sys2Proof.Machine

/-! ### The repeat of a block instruction (R199) -/

section
variable (u : State) (ia : Word) (again : Bool)

@[simp] theorem bc_repeatAt : (u.repeatAt ia again).bc = u.bc := by simp [State.bc]
@[simp] theorem de_repeatAt : (u.repeatAt ia again).de = u.de := by simp [State.de]
@[simp] theorem hl_repeatAt : (u.repeatAt ia again).hl = u.hl := by simp [State.hl]
@[simp] theorem flags_repeatAt : (u.repeatAt ia again).flags = u.flags := by simp [State.flags]

theorem repeatAt_false : u.repeatAt ia false = u := rfl

theorem repeatAt_eq : u.repeatAt ia again = { u with pc := if again then ia else u.pc } := by
  cases again <;> rfl

end

theorem repeatBits_false : repeatBits false = .noBits := rfl

/-- A continuing iteration draws X and Y; the other flags are those the operation computes. -/
theorem withFree_repeatBits (fl free : Flags) (again : Bool) : fl.withFree (repeatBits again) free =
    { fl with x := if again then free.x else fl.x, y := if again then free.y else fl.y } := by
  cases again <;> rfl

theorem repeatCost_ldAgain (s : State) : repeatCost s.ldAgain = if s.bc ≠ 1#16 then 21 else 16 := by
  simp [repeatCost, ldAgain_eq]

theorem repeatCost_cpAgain (s : State) :
    repeatCost s.cpAgain = if s.bc ≠ 1#16 ∧ s.main.a ≠ s.readByte s.hl then 21 else 16 := by
  simp [repeatCost, cpAgain_eq]

section
variable (u : State) (delta : Word) (drawn : Flags)

/-! ### The operation of a block transfer (R200, R202) -/

/-- A block transfer is one byte write beside its registers and flags. -/
theorem blockLd_spec : u.blockLd delta drawn =
    { u.writeByte u.de (u.readByte u.hl) with
      main := (u.blockLd delta drawn).main, draws := (u.blockLd delta drawn).draws } := by
  rw [State.blockLd, State.setFlags_spec]
  simp only [State.setBc, State.setDe, State.setHl]

@[simp] theorem main_a_blockLd : (u.blockLd delta drawn).main.a = u.main.a := by simp [State.blockLd]
@[simp] theorem hl_blockLd : (u.blockLd delta drawn).hl = u.hl + delta := by simp [State.blockLd, State.hl]
@[simp] theorem de_blockLd : (u.blockLd delta drawn).de = u.de + delta := by simp [State.blockLd, State.de]
@[simp] theorem bc_blockLd : (u.blockLd delta drawn).bc = u.bc - 1#16 := by simp [State.blockLd, State.bc]
@[simp] theorem pc_blockLd : (u.blockLd delta drawn).pc = u.pc := by simp [State.blockLd]

theorem flags_blockLd : (u.blockLd delta drawn).flags =
    (blockLdFlags u.flags (u.readByte u.hl) u.main.a (u.bc - 1#16)).withFree drawn
      (.ofByte (Config.flagDraw u.draws)) := by
  simp [State.blockLd, State.flags_setFlags]

/-! ### The operation of a block search (R204, R206) -/

/-- A block search changes registers and flags only. -/
theorem blockCp_spec : u.blockCp delta drawn =
    { u with main := (u.blockCp delta drawn).main, draws := (u.blockCp delta drawn).draws } := by
  rw [State.blockCp, State.setFlags_spec]
  rfl

@[simp] theorem main_a_blockCp : (u.blockCp delta drawn).main.a = u.main.a := by simp [State.blockCp]
@[simp] theorem hl_blockCp : (u.blockCp delta drawn).hl = u.hl + delta := by simp [State.blockCp, State.hl]
@[simp] theorem de_blockCp : (u.blockCp delta drawn).de = u.de := by simp [State.blockCp, State.de]
@[simp] theorem bc_blockCp : (u.blockCp delta drawn).bc = u.bc - 1#16 := by simp [State.blockCp, State.bc]

theorem flags_blockCp : (u.blockCp delta drawn).flags =
    (blockCpFlags u.flags u.main.a (u.readByte u.hl) (u.bc - 1#16)).withFree drawn
      (.ofByte (Config.flagDraw u.draws)) := by
  simp [State.blockCp, State.flags_setFlags]

end

/-! ### The flags in the spec's arithmetic (R200, R204) -/

theorem bne_eq_decide_ne {w : Nat} (x y : BitVec w) : (x != y) = decide (x ≠ y) := by
  simp [bne, beq_eq_decide]

theorem sub_beq_zero {w : Nat} (x y : BitVec w) : (x - y == 0#w) = decide (x = y) := by
  rw [beq_eq_decide]
  exact decide_eq_decide.2 sub_eq_zero

theorem ofInt_toNat_sub {w : Nat} (x : BitVec w) (k : Nat) :
    BitVec.ofInt w ((x.toNat : Int) - k) = x - BitVec.ofNat w k := by
  rw [Int.sub_eq_add_neg, BitVec.ofInt_add, BitVec.ofInt_neg, BitVec.ofInt_natCast, BitVec.ofInt_natCast,
    BitVec.ofNat_toNat, BitVec.setWidth_eq, BitVec.sub_eq_add_neg]

theorem blockCpFlags_eq (old : Flags) (a v : Byte) (bc : Word) :
    let res := BitVec.ofInt 8 ((a.toNat : Int) - v.toNat)
    let h := decide (a.toNat % 16 < v.toNat % 16)
    let k := BitVec.ofInt 8 ((res.toNat : Int) - h.toNat)
    blockCpFlags old a v bc =
      { s := res.getLsbD 7, z := decide (a = v), y := k.getLsbD 1, h := h, x := k.getLsbD 3,
        pv := decide (bc ≠ 0#16), n := true, c := old.c } := by
  simp only [ofInt_toNat_sub, BitVec.ofNat_toNat, BitVec.setWidth_eq]
  rw [blockCpFlags, sub_beq_zero, bne_eq_decide_ne]
  rfl

/-! ### One iteration -/

/-- One iteration, where `again` is the repeat test of R201. -/
theorem blockTransferPost_blockLd {s : State} {delta : Word} {rep again : Bool} {n : Nat}
    (hagain : (rep && decide (s.bc - 1#16 ≠ 0#16)) = again) :
    BlockTransferPost delta rep s (s.begin .ed2 n)
      (((s.begin .ed2 n).blockLd delta (repeatBits again)).repeatAt s.pc again) := by
  simp only [BlockTransferPost, hagain]
  rw [flags_repeatAt, flags_blockLd, withFree_repeatBits]
  refine ⟨?_, by simp, by simp, by simp, by simp, rfl, rfl, rfl, rfl, rfl, bne_eq_decide_ne _ _, ?_⟩
  · rw [repeatAt_eq, pc_blockLd, blockLd_spec]
    rfl
  · rintro rfl
    exact ⟨rfl, rfl⟩

/-- The form that does not repeat. -/
theorem blockTransferPost_once {s : State} {delta : Word} {n : Nat} :
    BlockTransferPost delta false s (s.begin .ed2 n) ((s.begin .ed2 n).blockLd delta .noBits) := by
  simpa only [repeatBits_false, repeatAt_false] using blockTransferPost_blockLd (rep := false) (again := false) rfl

/-- One iteration, where `again` is the repeat test of R205. -/
theorem blockSearchPost_blockCp {s : State} {delta : Word} {rep again : Bool} {n : Nat}
    (hagain : (rep && decide (s.bc - 1#16 ≠ 0#16) && decide (s.main.a ≠ s.readByte s.hl)) = again) :
    BlockSearchPost delta rep s (s.begin .ed2 n)
      (((s.begin .ed2 n).blockCp delta (repeatBits again)).repeatAt s.pc again) := by
  simp only [BlockSearchPost, hagain]
  rw [flags_repeatAt, flags_blockCp, withFree_repeatBits, blockCpFlags_eq]
  refine ⟨?_, by simp, by simp, by simp, by simp, rfl, rfl, rfl, rfl, rfl, rfl, ?_⟩
  · rw [repeatAt_eq, blockCp_spec]
  · rintro rfl
    exact ⟨rfl, rfl⟩

/-- The form that does not repeat. -/
theorem blockSearchPost_once {s : State} {delta : Word} {n : Nat} :
    BlockSearchPost delta false s (s.begin .ed2 n) ((s.begin .ed2 n).blockCp delta .noBits) := by
  simpa only [repeatBits_false, repeatAt_false] using blockSearchPost_blockCp (rep := false) (again := false) rfl

/-! ### The statements -/

/-- Settles O37: LDI and LDD are the iteration that stops; LDIR and LDDR go on while the new BC is not 0. -/
theorem blockTransfer : Obligations.BlockTransfer := by
  intro s
  have hagain : (true && decide (s.bc - 1#16 ≠ 0#16)) = s.ldAgain := (bne_eq_decide_ne _ _).symm
  simp only [← repeatCost_ldAgain]
  refine ⟨?_, ?_, ?_, ?_⟩
  · exact gives_of_exec rfl rfl blockTransferPost_once
  · exact gives_of_exec rfl rfl (blockTransferPost_blockLd hagain)
  · exact gives_of_exec rfl rfl blockTransferPost_once
  · exact gives_of_exec rfl rfl (blockTransferPost_blockLd hagain)

/-- Settles O38: CPI and CPD are the iteration that stops; CPIR and CPDR go on while the new BC is not 0 and the byte
is not A. -/
theorem blockSearch : Obligations.BlockSearch := by
  intro s
  have hagain : (true && decide (s.bc - 1#16 ≠ 0#16) && decide (s.main.a ≠ s.readByte s.hl)) = s.cpAgain := by
    rw [State.cpAgain, bne_eq_decide_ne, sub_bne_zero, Bool.true_and]
  simp only [← repeatCost_cpAgain]
  refine ⟨?_, ?_, ?_, ?_⟩
  · exact gives_of_exec rfl rfl blockSearchPost_once
  · exact gives_of_exec rfl rfl (blockSearchPost_blockCp hagain)
  · exact gives_of_exec rfl rfl blockSearchPost_once
  · exact gives_of_exec rfl rfl (blockSearchPost_blockCp hagain)

end Sys2Proof.Claims
end

section
/-! PROOFS. The completions of the 8-bit arithmetic and logic (R220 to R231, R252): the flags and results of the shared
operations in the spec's integer arithmetic, what a rule leaves that writes them, and the operand forms of a group of
rows. Last, DAA after an addition of packed decimal numbers (R250). -/

namespace Sys2Proof.Claims

open Sys2Proof.Machine

/-! ### What a rule leaves that writes the flags it computes -/

theorem setFlags_eq_setF (w : State) (fl undoc : Flags) :
    w.setFlags fl undoc .noBits = w.setF (w.setFlags fl undoc .noBits).main.f := by
  rw [State.setFlags_noBits, State.setF_main_f]

theorem flags_setFlags_noBits (w : State) (fl undoc : Flags) : (w.setFlags fl undoc .noBits).flags = fl := by
  rw [State.flags_setFlags, Flags.withFree_noBits]

/-! ### Results and flags in integer arithmetic (R220) -/

theorem add8Flags_eq_resultFlags (a v : Byte) (c : Bool) :
    add8Flags a v c = resultFlags (add8 a v c) (decide (a.toNat % 16 + v.toNat % 16 + c.toNat > 15))
      (a.getLsbD 7 == v.getLsbD 7 && (add8 a v c).getLsbD 7 != a.getLsbD 7) false
      (decide (a.toNat + v.toNat + c.toNat > 255)) := by
  simp only [add8Flags, resultFlags, beq_eq_decide]

theorem sub8_eq_ofInt (m v : Byte) (c : Bool) : sub8 m v c = BitVec.ofInt 8 ((m.toNat : Int) - v.toNat - c.toNat) := by
  have hsum : (m.toNat : Int) - v.toNat - c.toNat = m.toNat - (v.toNat + c.toNat : Nat) := by omega
  rw [hsum, ofInt_toNat_sub, BitVec.ofNat_add, BitVec.ofNat_toNat, BitVec.setWidth_eq, sub8, sub_sub]

/-- A borrow is a negative difference. -/
theorem sub8Flags_eq_resultFlags (m v : Byte) (c : Bool) :
    sub8Flags m v c = resultFlags (sub8 m v c)
      (decide (((m.toNat % 16 : Nat) : Int) - (v.toNat % 16 : Nat) - c.toNat < 0))
      (m.getLsbD 7 != v.getLsbD 7 && (sub8 m v c).getLsbD 7 != m.getLsbD 7) true
      (decide ((m.toNat : Int) - v.toNat - c.toNat < 0)) := by
  have borrow : ∀ x y : Nat, (x < y + c.toNat) = ((x : Int) - y - c.toNat < 0) := fun x y => by
    rw [eq_iff_iff]
    omega
  simp only [sub8Flags, resultFlags, beq_eq_decide, borrow]

theorem logicFlags_eq_resultFlags (res : Byte) (h : Bool) :
    logicFlags res h = resultFlags res h (evenOnes res) false false := by
  simp only [logicFlags, resultFlags, parity_eq_evenOnes, beq_eq_decide]

theorem inc8Flags_eq_resultFlags (old : Flags) (v : Byte) :
    inc8Flags old v = resultFlags (BitVec.ofNat 8 (v.toNat + 1)) (decide (v.toNat % 16 = 15)) (decide (v = 0x7F#8))
      false old.c := by
  simp [inc8Flags, Flags.szxy, resultFlags, beq_eq_decide, BitVec.ofNat_add]

theorem dec8Flags_eq_resultFlags (old : Flags) (v : Byte) :
    dec8Flags old v = resultFlags (BitVec.ofInt 8 ((v.toNat : Int) - 1)) (decide (v.toNat % 16 = 0))
      (decide (v = 0x80#8)) true old.c := by
  have hres : BitVec.ofInt 8 ((v.toNat : Int) - 1) = v - 1#8 := ofInt_toNat_sub v 1
  simp only [hres, dec8Flags, Flags.szxy, resultFlags, beq_eq_decide]

/-! ### Signed overflow (R220) -/

theorem getLsbD_seven (v : Byte) : v.getLsbD 7 = decide (128 ≤ v.toNat) := BitVec.msb_eq_decide v

/-- PV of an addition, sign by sign: the signed sum is out of range when equal signs give the other one. -/
theorem add8_overflow_iff (a v : Byte) (c : Bool) :
    (a.getLsbD 7 == v.getLsbD 7 && (add8 a v c).getLsbD 7 != a.getLsbD 7) = true ↔
      a.toInt + v.toInt + c.toNat < -128 ∨ a.toInt + v.toInt + c.toNat > 127 := by
  have hres : (add8 a v c).toNat = (a.toNat + v.toNat + c.toNat) % 256 := BitVec.toNat_ofNat _ _
  have hc : c.toNat ≤ 1 := c.toNat_le
  have ha := a.isLt
  have hv := v.isLt
  simp only [getLsbD_seven, hres, BitVec.toInt_eq_toNat_cond]
  simp only [Bool.and_eq_true, beq_iff_eq, bne_iff_ne, ne_eq, decide_eq_decide]
  split <;> split <;> omega

/-- PV of a subtraction, sign by sign: the signed difference is out of range when the signs differ and the result's is
not the minuend's. -/
theorem sub8_overflow_iff (m v : Byte) (c : Bool) :
    (m.getLsbD 7 != v.getLsbD 7 && (sub8 m v c).getLsbD 7 != m.getLsbD 7) = true ↔
      m.toInt - v.toInt - c.toNat < -128 ∨ m.toInt - v.toInt - c.toNat > 127 := by
  have hres : ((sub8 m v c).toNat : Int) = ((m.toNat : Int) - v.toNat - c.toNat) % 256 := by
    rw [sub8_eq_ofInt, BitVec.toNat_ofInt]
    omega
  have hc : c.toNat ≤ 1 := c.toNat_le
  have hm := m.isLt
  have hv := v.isLt
  simp only [getLsbD_seven, BitVec.toInt_eq_toNat_cond]
  simp only [Bool.and_eq_true, bne_iff_ne, ne_eq, decide_eq_decide]
  split <;> split <;> omega

/-! ### What the shared operations leave (R222 to R231, R252) -/

/-- Add8 into A, with the carry `c`. -/
theorem addPost_add8 (c : Bool) (v : Byte) (u : State) : AddPost c.toNat v u
    ((u.setReg .a (add8 u.main.a v c)).setFlags (add8Flags u.main.a v c) .yxBits .noBits) := by
  refine ⟨setFlags_eq_setF _ _ _, ?_, ?_⟩
  · rw [flags_setFlags_noBits, add8Flags_eq_resultFlags]
    rfl
  · rw [flags_setFlags_noBits]
    exact add8_overflow_iff u.main.a v c

/-- Sub8 into A, with the borrow `c`. -/
theorem subPost_sub8 (m : Byte) (c : Bool) (v : Byte) (u : State) : SubPost m c.toNat v u
    ((u.setReg .a (sub8 m v c)).setFlags (sub8Flags m v c) .yxBits .noBits) := by
  simp only [SubPost, ← sub8_eq_ofInt]
  refine ⟨setFlags_eq_setF _ _ _, ?_, ?_⟩
  · rw [flags_setFlags_noBits, sub8Flags_eq_resultFlags]
  · rw [flags_setFlags_noBits]
    exact sub8_overflow_iff m v c

/-- Logic into A. -/
theorem logicPost_setFlags (res : Byte) (h : Bool) (u : State) :
    LogicPost res h u ((u.setReg .a res).setFlags (logicFlags res h) .yxBits .noBits) :=
  ⟨setFlags_eq_setF _ _ _, by rw [flags_setFlags_noBits, logicFlags_eq_resultFlags]⟩

theorem comparePost_aluCp (v : Byte) (u : State) : ComparePost v u (u.aluCp v) := by
  refine ⟨setFlags_eq_setF _ _ _, ?_⟩
  rw [State.aluCp, flags_setFlags_noBits, ofInt_toNat_sub, BitVec.ofNat_toNat, BitVec.setWidth_eq]
  simp [cpFlags, sub8Flags, sub8, sub_beq_zero]

/-! ### The operand forms of a group of rows (R221, R230) -/

/-- The rows of a group at their templates: each begins with its own format and cost and does `op` with the operand
its form names. For a group of the model each field is a definition unfolded. -/
structure OperandRows (o : BitVec 3) (reg : Reg8 → Instr) (imm : Byte → Instr) (hl : Instr)
    (xyd : Index → Byte → Instr) (half : Index → Half → Instr) (op : Byte → State → State) : Prop where
  encode_reg : ∀ r, encode (reg r) = [0b10#2 ++ o ++ r.code] := by intros; rfl
  exec_reg : ∀ r s, exec (reg r) s = .next (op (s.reg r) (s.begin (reg r).format 4)) := by intros; rfl
  encode_imm : ∀ n, encode (imm n) = [0b11#2 ++ o ++ 0b110#3, n] := by intros; rfl
  exec_imm : ∀ n s, exec (imm n) s = .next (op n (s.begin (imm n).format 7)) := by intros; rfl
  encode_hl : encode hl = [0b10#2 ++ o ++ 0b110#3] := by intros; rfl
  exec_hl : ∀ s, exec hl s = .next (op (s.readByte s.hl) (s.begin hl.format 7)) := by intros; rfl
  encode_xyd : ∀ xy d, encode (xyd xy d) = [xy.prefixByte, 0b10#2 ++ o ++ 0b110#3, d] := by intros; rfl
  exec_xyd : ∀ xy d s, exec (xyd xy d) s =
    .next (op (s.readByte (s.ea xy d)) (s.begin (xyd xy d).format 19)) := by intros; rfl
  encode_half : ∀ xy hf, encode (half xy hf) = [xy.prefixByte, 0b10#2 ++ o ++ 0b10#2 ++ hf.bit] := by intros; rfl
  exec_half : ∀ xy hf s, exec (half xy hf) s =
    .next (op (s.half xy hf) (s.begin (half xy hf).format 8)) := by intros; rfl

/-- The five forms complete with what `op` leaves for an operand in the begun state. -/
theorem OperandRows.fiveForms {o : BitVec 3} {reg : Reg8 → Instr} {imm : Byte → Instr} {hl : Instr}
    {xyd : Index → Byte → Instr} {half : Index → Half → Instr} {op : Byte → State → State}
    (rows : OperandRows o reg imm hl xyd half op) {s : State} {post : Byte → State → State → Prop}
    (hpost : ∀ v fmt n, post v (s.begin fmt n) (op v (s.begin fmt n))) :
    FiveForms o s reg imm hl xyd half post := by
  refine ⟨fun r => ?_, fun n => ?_, ?_, fun xy d => ?_, fun xy hf => ?_⟩
  · exact gives_of_exec (rows.encode_reg r) (rows.exec_reg r s) (hpost _ _ _)
  · exact gives_of_exec (rows.encode_imm n) (rows.exec_imm n s) (hpost _ _ _)
  · exact gives_of_exec rows.encode_hl (rows.exec_hl s) (hpost _ _ _)
  · rw [← ea_eq_indexed]
    exact gives_of_exec (rows.encode_xyd xy d) (rows.exec_xyd xy d s) (hpost _ _ _)
  · exact gives_of_exec (rows.encode_half xy hf) (rows.exec_half xy hf s) (hpost _ _ _)

/-- The rows of INC or DEC at their templates: each begins with its own format and cost, writes `res` of its operand
back to it, and then `mark` writes the flags of the operand's old value. For a group of the
model each field is a definition unfolded. -/
structure UpdateRows (z : BitVec 3) (reg : Reg8 → Instr) (hl : Instr) (xyd : Index → Byte → Instr)
    (half : Index → Half → Instr) (res : Byte → Byte) (mark : Byte → State → State) : Prop where
  encode_reg : ∀ r, encode (reg r) = [0b00#2 ++ r.code ++ z] := by intros; rfl
  exec_reg : ∀ r s, exec (reg r) s =
    .next (mark (s.reg r) ((s.begin (reg r).format 4).setReg r (res (s.reg r)))) := by intros; rfl
  encode_hl : encode hl = [0b00110#5 ++ z] := by intros; rfl
  exec_hl : ∀ s, exec hl s =
    .next (mark (s.readByte s.hl) ((s.begin hl.format 11).writeByte s.hl (res (s.readByte s.hl)))) := by intros; rfl
  encode_xyd : ∀ xy d, encode (xyd xy d) = [xy.prefixByte, 0b00110#5 ++ z, d] := by intros; rfl
  exec_xyd : ∀ xy d s, exec (xyd xy d) s = .next (mark (s.readByte (s.ea xy d))
    ((s.begin (xyd xy d).format 23).writeByte (s.ea xy d) (res (s.readByte (s.ea xy d))))) := by intros; rfl
  encode_half : ∀ xy hf, encode (half xy hf) = [xy.prefixByte, 0b00#2 ++ hf.code ++ z] := by intros; rfl
  exec_half : ∀ xy hf s, exec (half xy hf) s =
    .next (mark (s.half xy hf) ((s.begin (half xy hf).format 8).setHalf xy hf (res (s.half xy hf)))) := by intros; rfl

/-- The four forms complete with the result written back and the flags `mark` writes over the old ones. -/
theorem UpdateRows.fourForms {z : BitVec 3} {reg : Reg8 → Instr} {hl : Instr} {xyd : Index → Byte → Instr}
    {half : Index → Half → Instr} {res : Byte → Byte} {mark : Byte → State → State}
    (rows : UpdateRows z reg hl xyd half res mark) {s : State} {fl : Byte → Flags}
    (hmark : ∀ (v : Byte) (w : State), w.flags = s.flags →
      mark v w = w.setF (mark v w).main.f ∧ (mark v w).flags = fl v) :
    FourForms z s reg hl xyd half res fl := by
  refine ⟨fun r => ?_, ?_, fun xy d => ?_, fun xy hf => ?_⟩
  · exact gives_of_exec (rows.encode_reg r) (rows.exec_reg r s) (hmark _ _ (by simp))
  · exact gives_of_exec rows.encode_hl (rows.exec_hl s) (hmark _ _ (by simp))
  · rw [← ea_eq_indexed]
    exact gives_of_exec (rows.encode_xyd xy d) (rows.exec_xyd xy d s) (hmark _ _ (by simp))
  · exact gives_of_exec (rows.encode_half xy hf) (rows.exec_half xy hf s) (hmark _ _ (by simp [State.flags]))

/-! ### DAA after an addition of packed decimal numbers (R250) -/

section

variable {x y : Nat}

theorem bcd_toNat (hx : x < 100) : (bcd x).toNat = x / 10 * 16 + x % 10 := by
  rw [bcd, BitVec.toNat_ofNat]
  omega

/-- The packed digits add place by place. -/
theorem bcd_toNat_add (hx : x < 100) (hy : y < 100) :
    (bcd x).toNat + (bcd y).toNat = (x / 10 + y / 10) * 16 + (x % 10 + y % 10) := by
  rw [bcd_toNat hx, bcd_toNat hy]
  omega

theorem add8_bcd_toNat (hx : x < 100) (hy : y < 100) :
    (add8 (bcd x) (bcd y) false).toNat = ((x / 10 + y / 10) * 16 + (x % 10 + y % 10)) % 256 := by
  rw [add8, BitVec.toNat_ofNat, Bool.toNat_false, Nat.add_zero, bcd_toNat_add hx hy]

/-- DAA corrects the low digit exactly when the low digits carry in decimal. -/
theorem lowCorrection_eq (hx : x < 100) (hy : y < 100) :
    ((add8Flags (bcd x) (bcd y) false).h || decide ((add8 (bcd x) (bcd y) false).toNat % 16 > 9)) =
      decide (x % 10 + y % 10 ≥ 10) := by
  rw [add8_bcd_toNat hx hy, add8Flags, bcd_toNat hx, bcd_toNat hy, ← Bool.decide_or, Bool.toNat_false,
    decide_eq_decide]
  omega

/-- DAA corrects the high digit, and sets C, exactly when the sum carries out of two decimal digits. -/
theorem highCorrection_eq (hx : x < 100) (hy : y < 100) :
    ((add8Flags (bcd x) (bcd y) false).c || decide ((add8 (bcd x) (bcd y) false).toNat > 0x99)) =
      decide (x + y ≥ 100) := by
  have hsum : x + y = (x / 10 + y / 10) * 10 + (x % 10 + y % 10) := by omega
  have hones : x % 10 + y % 10 ≤ 18 := by omega
  have htens : x / 10 + y / 10 ≤ 18 := by omega
  rw [add8_bcd_toNat hx hy, add8Flags, bcd_toNat_add hx hy, ← Bool.decide_or, Bool.toNat_false,
    decide_eq_decide, hsum]
  generalize x % 10 + y % 10 = ones at hones
  generalize x / 10 + y / 10 = tens at htens
  omega

/-- The two corrections share no bit, so they add. -/
theorem daaCorr_toNat (a : Byte) (fl : Flags) : (daaCorr a fl).toNat =
    (if fl.h || decide (a.toNat % 16 > 9) then 0x06 else 0) +
      (if fl.c || decide (a.toNat > 0x99) then 0x60 else 0) := by
  rw [daaCorr]
  split <;> split <;> rfl

/-- The corrections turn the binary sum of the packed digits into those of the decimal sum. -/
theorem daaResult_add8_bcd (hx : x < 100) (hy : y < 100) :
    daaResult (add8 (bcd x) (bcd y) false) (add8Flags (bcd x) (bcd y) false) = bcd ((x + y) % 100) := by
  have hadd : (add8Flags (bcd x) (bcd y) false).n = false := rfl
  apply BitVec.eq_of_toNat_eq
  rw [daaResult, hadd, if_neg Bool.false_ne_true, BitVec.toNat_add, daaCorr_toNat, lowCorrection_eq hx hy,
    highCorrection_eq hx hy, add8_bcd_toNat hx hy, bcd_toNat (Nat.mod_lt _ (by decide))]
  simp only [decide_eq_true_eq]
  split <;> split <;> omega

end

/-! ### The statements -/

/-- Settles O39: the carry in is 0 for ADD and the carry flag for ADC. -/
theorem addAdc : Obligations.AddAdc := fun s =>
  ⟨OperandRows.fiveForms (op := State.aluAdd) {} fun v _ _ => addPost_add8 false v _,
    OperandRows.fiveForms (op := State.aluAdc) {} fun v _ _ => addPost_add8 s.flags.c v _⟩

/-- Settles O40: the borrow in is 0 for SUB and the carry flag for SBC; NEG and its duplicates subtract A from 0. -/
theorem subSbcNeg : Obligations.SubSbcNeg := fun s =>
  ⟨OperandRows.fiveForms (op := State.aluSub) {} fun v _ _ => subPost_sub8 s.main.a false v _,
    OperandRows.fiveForms (op := State.aluSbc) {} fun v _ _ => subPost_sub8 s.main.a s.flags.c v _,
    gives_of_exec rfl rfl (subPost_sub8 0#8 false s.main.a _),
    fun _ => gives_of_exec rfl rfl (subPost_sub8 0#8 false s.main.a _)⟩

/-- Settles O41: each result goes through Logic. -/
theorem andXorOr : Obligations.AndXorOr := fun s =>
  ⟨OperandRows.fiveForms (op := State.aluAnd) {} fun v _ _ => logicPost_setFlags (s.main.a &&& v) true _,
    OperandRows.fiveForms (op := State.aluXor) {} fun v _ _ => logicPost_setFlags (s.main.a ^^^ v) false _,
    OperandRows.fiveForms (op := State.aluOr) {} fun v _ _ => logicPost_setFlags (s.main.a ||| v) false _⟩

/-- Settles O42, with Y and X from the operand. -/
theorem compare : Obligations.Compare := fun _ =>
  OperandRows.fiveForms (op := State.aluCp) {} fun v _ _ => comparePost_aluCp v _

/-- Settles O43: the carry flag is read from the flags as they stand after the write, which are the old ones. -/
theorem incDecByte : Obligations.IncDecByte := by
  intro s
  have hinc : (fun v : Byte => BitVec.ofNat 8 (v.toNat + 1)) = (· + 1#8) := rfl
  have hdec : (fun v : Byte => BitVec.ofInt 8 ((v.toNat : Int) - 1)) = (· - 1#8) := funext fun v => ofInt_toNat_sub v 1
  constructor
  · rw [hinc]
    refine UpdateRows.fourForms (mark := State.incFlags) {} fun v w hw => ⟨setFlags_eq_setF _ _ _, ?_⟩
    rw [State.incFlags, flags_setFlags_noBits, hw, inc8Flags_eq_resultFlags]
  · rw [hdec]
    refine UpdateRows.fourForms (mark := State.decFlags) {} fun v w hw => ⟨setFlags_eq_setF _ _ _, ?_⟩
    rw [State.decFlags, flags_setFlags_noBits, hw, dec8Flags_eq_resultFlags]

/-- Settles O45: DAA adjusts the sum and the flags ADD leaves. -/
theorem decimalAddition : Obligations.DecimalAddition := by
  intro s t w x y hx hy ha hadd hdaa
  obtain rfl := Host.Outcome.next.inj hadd
  obtain rfl := Host.Outcome.next.inj hdaa
  have hsum : ((s.begin .b2n 7).aluAdd (bcd y)).main.a = add8 (bcd x) (bcd y) false := by
    rw [← ha]
    exact State.setFlags_main_a _ _ _ _
  have hflags : ((s.begin .b2n 7).aluAdd (bcd y)).flags = add8Flags (bcd x) (bcd y) false := by
    simp [State.aluAdd, ha]
  rw [State.setFlags_main_a, flags_setFlags_noBits, hsum, hflags]
  constructor
  · exact daaResult_add8_bcd hx hy
  · exact (Bool.eq_iff_iff.1 (highCorrection_eq hx hy)).trans decide_eq_true_iff

end Sys2Proof.Claims
end

section
/-! PROOFS. The completions of general arithmetic and control (R250, R251, R253 to R262): DAA's correction and flags in
the spec's integer arithmetic for every A and F, the complement as a difference, and the flags of a rule that draws Y
and X. -/

namespace Sys2Proof.Claims

open Sys2Proof.Machine

/-! ### DAA (R250) -/

/-- The correction is added or subtracted by N, and the result wraps. -/
theorem daaResult_eq_ite (a : Byte) (fl : Flags) : daaResult a fl =
    if fl.n = true then BitVec.ofInt 8 ((a.toNat : Int) - (daaCorr a fl).toNat)
    else BitVec.ofNat 8 (a.toNat + (daaCorr a fl).toNat) := by
  simp only [daaResult, ofInt_toNat_sub, BitVec.ofNat_add, BitVec.ofNat_toNat, BitVec.setWidth_eq]

theorem daaFlags_eq_resultFlags (a : Byte) (fl : Flags) :
    daaFlags a fl = resultFlags (daaResult a fl)
      (if fl.n = true then fl.h && decide (a.toNat % 16 < 6) else decide (a.toNat % 16 > 9))
      (evenOnes (daaResult a fl)) fl.n (fl.c || decide (a.toNat > 0x99)) := by
  simp only [daaFlags, Flags.szxy, resultFlags, parity_eq_evenOnes, beq_eq_decide]

/-- Settles O44: the correction DAA applies is the sum of the rule's two, for every A and F. -/
theorem decimalAdjust : Obligations.DecimalAdjust := by
  intro s a fl corr res
  have hcorr : (daaCorr s.main.a s.flags).toNat = corr := by
    rw [daaCorr_toNat]
    simp only [Bool.or_eq_true, decide_eq_true_eq, corr, fl, a]
  have hres : daaResult s.main.a s.flags = res := by rw [daaResult_eq_ite, hcorr]
  rw [← hres]
  refine gives_of_exec rfl rfl ⟨setFlags_eq_setF _ _ _, ?_⟩
  rw [flags_setFlags_noBits, daaFlags_eq_resultFlags]

/-! ### CPL, CCF and SCF (R251, R253, R254) -/

theorem ofNat_sub_toNat_eq_not (v : Byte) : BitVec.ofNat 8 (255 - v.toNat) = ~~~v := by
  have hv := v.isLt
  apply BitVec.eq_of_toNat_eq
  rw [BitVec.toNat_not, BitVec.toNat_ofNat]
  omega

/-- A rule that draws Y and X leaves the other flags as it computes them. -/
theorem flags_setFlags_yxBits (w : State) (fl undoc : Flags) :
    (w.setFlags fl undoc .yxBits).flags = { fl with
      y := (w.setFlags fl undoc .yxBits).flags.y, x := (w.setFlags fl undoc .yxBits).flags.x } := by
  rw [State.flags_setFlags]
  rfl

/-- Settles O46: CPL subtracts A from 255 without a borrow; CCF and SCF write the flag byte and may move the counter
of free values on. -/
theorem complementAndCarry : Obligations.ComplementAndCarry := by
  intro s a'
  have ha' : ~~~s.main.a = a' := (ofNat_sub_toNat_eq_not s.main.a).symm
  refine ⟨?_, ?_, ?_⟩
  · rw [← ha']
    exact gives_of_exec rfl rfl ⟨setFlags_eq_setF _ _ _, flags_setFlags_noBits _ _ _⟩
  · exact gives_of_exec rfl rfl ⟨State.setFlags_spec _ _ _ _, flags_setFlags_yxBits _ _ _⟩
  · exact gives_of_exec rfl rfl ⟨State.setFlags_spec _ _ _ _, flags_setFlags_yxBits _ _ _⟩

/-! ### CPU control (R255 to R262) -/

/-- Settles O47: each row begins the step and writes the fields its rule names; a duplicate has the meaning of its
row, whatever its free bits. -/
theorem cpuControl : Obligations.CpuControl := by
  intro s
  refine ⟨?_, ?_, ?_, ?_, ?_, fun y => ?_, ?_, ?_, ?_, ?_, fun u => ?_, fun u => ?_, fun u v => ?_, fun u => ?_,
    fun u => ?_⟩ <;> exact gives_of_exec rfl rfl rfl

end Sys2Proof.Claims
end

section
/-! PROOFS. The completions of the 16-bit arithmetic (R270 to R277): the flags and results of the shared operations in
the spec's integer arithmetic, and what a rule leaves that adds or subtracts with the carry. -/

namespace Sys2Proof.Claims

open Sys2Proof.Machine

/-! ### Results and flags in integer arithmetic (R270 to R272) -/

theorem adc16Flags_eq_wordFlags (a b : Word) (c : Bool) :
    adc16Flags a b c = wordFlags (add16 a b c) (decide (a.toNat % 4096 + b.toNat % 4096 + c.toNat > 0xFFF))
      (a.getLsbD 15 == b.getLsbD 15 && (add16 a b c).getLsbD 15 != a.getLsbD 15) false
      (decide (a.toNat + b.toNat + c.toNat > 0xFFFF)) := by
  simp only [adc16Flags, wordFlags, beq_eq_decide]

theorem sub16_eq_ofInt (a b : Word) (c : Bool) :
    sub16 a b c = BitVec.ofInt 16 ((a.toNat : Int) - b.toNat - c.toNat) := by
  have hsum : (a.toNat : Int) - b.toNat - c.toNat = a.toNat - (b.toNat + c.toNat : Nat) := by omega
  rw [hsum, ofInt_toNat_sub, BitVec.ofNat_add, BitVec.ofNat_toNat, BitVec.setWidth_eq, sub16, sub_sub]

/-- A borrow is a negative difference. -/
theorem sbc16Flags_eq_wordFlags (a b : Word) (c : Bool) :
    sbc16Flags a b c = wordFlags (sub16 a b c)
      (decide (((a.toNat % 4096 : Nat) : Int) - (b.toNat % 4096 : Nat) - c.toNat < 0))
      (a.getLsbD 15 != b.getLsbD 15 && (sub16 a b c).getLsbD 15 != a.getLsbD 15) true
      (decide ((a.toNat : Int) - b.toNat - c.toNat < 0)) := by
  have borrow : ∀ x y : Nat, (x < y + c.toNat) = ((x : Int) - y - c.toNat < 0) := fun x y => by
    rw [eq_iff_iff]
    omega
  simp only [sbc16Flags, wordFlags, beq_eq_decide, borrow]

/-! ### The statements -/

/-- Settles O49: the carry in and the borrow in are the carry flag, and the difference wraps. -/
theorem adcSbcWord : Obligations.AdcSbcWord := by
  intro s ss a b sum diff
  have hdiff : sub16 a b s.flags.c = BitVec.ofInt 16 diff := sub16_eq_ofInt a b s.flags.c
  constructor
  · refine gives_of_exec rfl rfl ⟨setFlags_eq_setF _ _ _, ?_⟩
    rw [flags_setFlags_noBits, adc16Flags_eq_wordFlags]
    rfl
  · rw [← hdiff]
    refine gives_of_exec rfl rfl ⟨setFlags_eq_setF _ _ _, ?_⟩
    rw [flags_setFlags_noBits, sbc16Flags_eq_wordFlags]
    rfl

/-- Settles O48: the sum goes without a carry in, and the rule reads S, Z and PV from the old flags. -/
theorem addWord : Obligations.AddWord := fun _ =>
  ⟨fun _ => gives_of_exec rfl rfl ⟨setFlags_eq_setF _ _ _, flags_setFlags_noBits _ _ _⟩,
    fun _ _ => gives_of_exec rfl rfl ⟨setFlags_eq_setF _ _ _, flags_setFlags_noBits _ _ _⟩⟩

/-- Settles O50: each form writes its register pair and nothing else after the step begins. -/
theorem incDecWord : Obligations.IncDecWord := by
  intro s
  have hinc (v : Word) : BitVec.ofNat 16 (v.toNat + 1) = v + 1#16 := rfl
  have hdec (v : Word) : BitVec.ofInt 16 ((v.toNat : Int) - 1) = v - 1#16 := ofInt_toNat_sub v 1
  simp only [hinc, hdec]
  refine ⟨fun ss => ?_, fun xy => ?_, fun ss => ?_, fun xy => ?_⟩ <;> exact gives_of_exec rfl rfl rfl

end Sys2Proof.Claims
end

section
/-! PROOFS. The completions of the rotates and shifts (R285 to R300): the results and the bits shifted out in the spec's
integer arithmetic, the operand forms of a CB operation, and the digits a nibble rotate puts together. -/

namespace Sys2Proof.Claims

open Sys2Proof.Machine

/-! ### Results and flags in the spec's arithmetic (R289) -/

theorem rotResult_eq_rotated (op : RotOp) (v : Byte) (c : Bool) : rotResult op v c = rotated op v.toNat c.toNat := by
  cases op <;> (revert v c; decide +kernel)

theorem rotOut_eq_rotatedOut (op : RotOp) (v : Byte) : rotOut op v = rotatedOut op v.toNat := by
  cases op <;> (revert v; decide +kernel)

/-- The carry in of R289 is the carry flag. -/
theorem rotated_carry (op : RotOp) (v : Byte) (s : State) :
    rotated op v.toNat (carry s) = rotResult op v s.flags.c := (rotResult_eq_rotated op v s.flags.c).symm

theorem rotFlags_eq_resultFlags (res : Byte) (co : Bool) :
    rotFlags res co = resultFlags res false (evenOnes res) false co := by
  rw [rotFlags, logicFlags_eq_resultFlags]
  rfl

/-! ### The accumulator rotates (R285 to R288) -/

theorem rotateAPost_rotA (op : RotOp) (s : State) (fmt : Format) (n : Nat) :
    RotateAPost op s (s.begin fmt n) ((s.begin fmt n).rotA op) := by
  simp only [RotateAPost, rotated_carry, ← rotOut_eq_rotatedOut]
  exact ⟨setFlags_eq_setF _ _ _, flags_setFlags_noBits _ _ _⟩

/-- Settles O51: each row begins the step and rotates A. -/
theorem rotateAccumulator : Obligations.RotateAccumulator := by
  intro s
  refine ⟨?_, ?_, ?_, ?_⟩ <;> exact gives_of_exec rfl rfl (rotateAPost_rotA _ _ _ _)

/-! ### The four operand forms of a CB operation (R289, R298) -/

/-- The flag byte a CB operation on `v` writes, over whatever it has written before. -/
theorem rotFlagsOf_spec (op : RotOp) (v : Byte) (c : Bool) (w : State) :
    w.rotFlagsOf op v c = w.setF (w.rotFlagsOf op v c).main.f ∧
    (w.rotFlagsOf op v c).flags = resultFlags (rotResult op v c) false (evenOnes (rotResult op v c)) false
      (rotatedOut op v.toNat) := by
  refine ⟨setFlags_eq_setF _ _ _, ?_⟩
  rw [State.rotFlagsOf, flags_setFlags_noBits, rotFlags_eq_resultFlags, rotOut_eq_rotatedOut]

/-- The rows of a CB operation at their templates: each begins with its own format and cost and does `op` on the
operand its form names. For an operation of the model each field is a definition unfolded. -/
structure RotateRows (op : RotOp) (o : BitVec 3) (reg : Reg8 → Instr) (hl : Instr) (xyd : Index → Byte → Instr)
    (xydR : Index → Byte → Reg8 → Instr) : Prop where
  encode_reg : ∀ r, encode (reg r) = [0xCB#8, 0b00#2 ++ o ++ r.code] := by intros; rfl
  exec_reg : ∀ r s, exec (reg r) s = .next ((s.begin (reg r).format 8).rotReg op r) := by intros; rfl
  encode_hl : encode hl = [0xCB#8, 0b00#2 ++ o ++ 0b110#3] := by intros; rfl
  exec_hl : ∀ s, exec hl s = .next ((s.begin hl.format 15).rotMem op s.hl) := by intros; rfl
  encode_xyd : ∀ xy d, encode (xyd xy d) = [xy.prefixByte, 0xCB#8, d, 0b00#2 ++ o ++ 0b110#3] := by intros; rfl
  exec_xyd : ∀ xy d s, exec (xyd xy d) s =
    .next ((s.begin (xyd xy d).format 23).rotMem op (s.ea xy d)) := by intros; rfl
  encode_xydR : ∀ xy d r, encode (xydR xy d r) = [xy.prefixByte, 0xCB#8, d, 0b00#2 ++ o ++ r.code] := by intros; rfl
  exec_xydR : ∀ xy d r s, exec (xydR xy d r) s =
    .next ((s.begin (xydR xy d r).format 23).rotMemCopy op (s.ea xy d) r) := by intros; rfl

/-- The four forms complete with the result written to the operand, and to the register of a copy. -/
theorem RotateRows.rotateForms {op : RotOp} {o : BitVec 3} {reg : Reg8 → Instr} {hl : Instr}
    {xyd : Index → Byte → Instr} {xydR : Index → Byte → Reg8 → Instr} (rows : RotateRows op o reg hl xyd xydR)
    (s : State) : RotateForms op o s reg hl xyd xydR := by
  simp only [RotateForms, rotated_carry, ← ea_eq_indexed]
  refine ⟨fun r => ?_, ?_, fun xy d => ?_, fun xy d r => ?_⟩
  · exact gives_of_exec (rows.encode_reg r) (rows.exec_reg r s) (rotFlagsOf_spec _ _ _ _)
  · exact gives_of_exec rows.encode_hl (rows.exec_hl s) (rotFlagsOf_spec _ _ _ _)
  · exact gives_of_exec (rows.encode_xyd xy d) (rows.exec_xyd xy d s) (rotFlagsOf_spec _ _ _ _)
  · exact gives_of_exec (rows.encode_xydR xy d r) (rows.exec_xydR xy d r s) (rotFlagsOf_spec _ _ _ _)

/-- Settles O52, operation by operation. -/
theorem rotateShift : Obligations.RotateShift := by
  intro s
  refine ⟨?_, ?_, ?_, ?_, ?_, ?_, ?_, ?_⟩ <;> exact RotateRows.rotateForms {} s

/-! ### The digit rotates (R299, R300) -/

/-- A byte put together from its two digits. -/
theorem or_eq_ofNat_digits {hi lo : Byte} {m n : Nat} (hhi : hi.toNat = m * 16) (hlo : lo.toNat = n) (hn : n < 16) :
    hi ||| lo = BitVec.ofNat 8 (m * 16 + n) := by
  have hor : m * 16 + n = m * 16 ||| n := by
    rw [Nat.mul_comm]
    exact Nat.two_pow_add_eq_or_of_lt (i := 4) hn m
  rw [hor, ← hhi, ← hlo, ← BitVec.toNat_or, BitVec.ofNat_toNat, BitVec.setWidth_eq]

theorem toNat_and_highDigit (v : Byte) : (v &&& 0xF0#8).toNat = v.toNat / 16 * 16 := by
  revert v; decide +kernel

theorem toNat_and_lowDigit (v : Byte) : (v &&& 0x0F#8).toNat = v.toNat % 16 :=
  Nat.and_two_pow_sub_one_eq_mod v.toNat 4

theorem toNat_shiftLeft_digit (v : Byte) : (v <<< 4).toNat = v.toNat % 16 * 16 := by
  rw [BitVec.toNat_shiftLeft, Nat.shiftLeft_eq]
  omega

theorem toNat_shiftRight_digit (v : Byte) : (v >>> 4).toNat = v.toNat / 16 := by
  rw [BitVec.toNat_ushiftRight, Nat.shiftRight_eq_div_pow]

theorem flags_nibbles (a v : Byte) (s : State) :
    (s.nibbles a v).flags = resultFlags a false (evenOnes a) false s.flags.c := by
  rw [State.nibbles, flags_setFlags_noBits, parityFlags_eq_resultFlags]

/-- Settles O53: each new byte is two of the three digits of the old A and (HL). -/
theorem rotateDigit : Obligations.RotateDigit := by
  intro s a v
  have ha : s.main.a.toNat < 256 := s.main.a.isLt
  have hv : (s.readByte s.hl).toNat < 256 := (s.readByte s.hl).isLt
  constructor
  · rw [← or_eq_ofNat_digits (toNat_and_highDigit s.main.a) (toNat_shiftRight_digit (s.readByte s.hl)) (by omega),
      ← or_eq_ofNat_digits (toNat_shiftLeft_digit (s.readByte s.hl)) (toNat_and_lowDigit s.main.a) (by omega)]
    exact gives_of_exec rfl rfl ⟨setFlags_eq_setF _ _ _, flags_nibbles _ _ _⟩
  · rw [← or_eq_ofNat_digits (toNat_and_highDigit s.main.a) (toNat_and_lowDigit (s.readByte s.hl)) (by omega),
      ← or_eq_ofNat_digits (toNat_shiftLeft_digit s.main.a) (toNat_shiftRight_digit (s.readByte s.hl)) (by omega)]
    exact gives_of_exec rfl rfl ⟨setFlags_eq_setF _ _ _, flags_nibbles _ _ _⟩

end Sys2Proof.Claims
end

section
/-! PROOFS. The completions of the bit test, reset and set (R310 to R316): the flags of BIT in the spec's words, and a byte
with one bit cleared or set as the difference or the sum with that bit's weight. -/

namespace Sys2Proof.Claims

open Sys2Proof.Machine

/-! ### BIT (R310 to R312) -/

theorem bitFlags_eq_bitTested (old : Flags) (v : Byte) (b : BitVec 3) (yx : Byte) :
    bitFlags old v b yx = bitTested old b v yx := by
  simp [bitFlags, bitTested, beq_eq_decide]

/-- Settles O54: each form writes the flag byte for the bit it reads; the `(HL)` form may also move the counter of free
values on. -/
theorem bitTest : Obligations.BitTest := by
  intro s b
  simp only [← ea_eq_indexed, ← bitFlags_eq_bitTested, ofNat_div_eq_hiByte]
  refine ⟨fun r => ?_, ?_, fun xy d => ?_, fun xy d r => ?_⟩
  · exact gives_of_exec rfl rfl ⟨setFlags_eq_setF _ _ _, flags_setFlags_noBits _ _ _⟩
  · exact gives_of_exec rfl rfl ⟨State.setFlags_spec _ _ _ _, flags_setFlags_yxBits _ _ _⟩
  · exact gives_of_exec rfl rfl ⟨setFlags_eq_setF _ _ _, flags_setFlags_noBits _ _ _⟩
  · exact gives_of_exec rfl rfl ⟨setFlags_eq_setF _ _ _, flags_setFlags_noBits _ _ _⟩

/-! ### One bit of a value in arithmetic -/

/-- A 0 bit takes the addition of its weight without a carry. -/
theorem add_twoPow_eq_or {w i : Nat} {v : BitVec w} (h : v.getLsbD i = false) :
    v + BitVec.twoPow w i = v ||| BitVec.twoPow w i :=
  BitVec.add_eq_or_of_and_eq_zero _ _ (by simp [BitVec.and_twoPow, h])

theorem or_twoPow_eq_self {w i : Nat} {v : BitVec w} (h : v.getLsbD i = true) : v ||| BitVec.twoPow w i = v := by
  refine BitVec.eq_of_getLsbD_eq fun j hlt => ?_
  obtain rfl | hj := eq_or_ne j i
  · simp [h, hlt]
  · simp [hj, hlt]

theorem and_not_twoPow_eq_self {w i : Nat} {v : BitVec w} (h : v.getLsbD i = false) :
    v &&& ~~~BitVec.twoPow w i = v := by
  refine BitVec.eq_of_getLsbD_eq fun j hlt => ?_
  obtain rfl | hj := eq_or_ne j i
  · simp [h]
  · simp [hj, hlt]

/-- A 1 bit gives its weight up without a borrow. -/
theorem sub_twoPow_eq_and_not {w i : Nat} {v : BitVec w} (h : v.getLsbD i = true) :
    v - BitVec.twoPow w i = v &&& ~~~BitVec.twoPow w i := by
  have hclear : (v &&& ~~~BitVec.twoPow w i).getLsbD i = false := by simp
  rw [BitVec.sub_eq_iff_eq_add, add_twoPow_eq_or hclear]
  refine BitVec.eq_of_getLsbD_eq fun j hlt => ?_
  obtain rfl | hj := eq_or_ne j i
  · simp [h, hlt]
  · simp [hj, hlt]

theorem ofNat_two_pow (w i : Nat) : BitVec.ofNat w (2 ^ i) = BitVec.twoPow w i :=
  BitVec.eq_of_toNat_eq (by rw [BitVec.toNat_ofNat, BitVec.toNat_twoPow])

/-! ### Results in the spec's arithmetic (R313, R315) -/

/-- SET changes the value only when the bit is 0, and then adds its weight (R315). -/
theorem withBit_true_eq_raiseBit (b : BitVec 3) (v : Byte) : withBit b true v = raiseBit b v := by
  rw [withBit, raiseBit, ← BitVec.twoPow_eq]
  split
  · next h => exact (or_twoPow_eq_self h).symm
  · next h =>
    rw [if_pos rfl, BitVec.ofNat_add, BitVec.ofNat_toNat, BitVec.setWidth_eq, ofNat_two_pow,
      add_twoPow_eq_or (Bool.eq_false_of_not_eq_true h)]

/-- RES changes the value only when the bit is 1, and then subtracts its weight (R313). -/
theorem withBit_false_eq_clearBit (b : BitVec 3) (v : Byte) : withBit b false v = clearBit b v := by
  rw [withBit, clearBit, ← BitVec.twoPow_eq]
  split
  · next h => exact (and_not_twoPow_eq_self h).symm
  · next h =>
    have hset := Bool.eq_true_of_not_eq_false h
    have hle : 2 ^ b.toNat ≤ v.toNat := Nat.ge_two_pow_of_testBit hset
    rw [if_neg Bool.false_ne_true, ← BitVec.ofNat_sub_ofNat_of_le _ _ (hle.trans_lt v.isLt) hle, BitVec.ofNat_toNat,
      BitVec.setWidth_eq, ofNat_two_pow, sub_twoPow_eq_and_not hset]

/-! ### The four operand forms (R313 to R316) -/

/-- Settles O55: each form writes its operand, and the register of a copy, with the byte it reads with one bit cleared
or set. -/
theorem resSet : Obligations.ResSet := by
  intro s
  simp only [BitForms, withBit_false_eq_clearBit, withBit_true_eq_raiseBit, ← ea_eq_indexed]
  refine ⟨fun b => ⟨fun r => ?_, ?_, fun xy d => ?_, fun xy d r => ?_⟩,
    fun b => ⟨fun r => ?_, ?_, fun xy d => ?_, fun xy d r => ?_⟩⟩ <;> exact gives_of_exec rfl rfl rfl

end Sys2Proof.Claims
end

section
/-! PROOFS. The completions of the jumps, calls and returns (R330 to R344): the condition and the target of a relative
jump in the spec's words, and a call and a return as the push and the pop of R189. -/

namespace Sys2Proof.Claims

open Sys2Proof.Machine

/-! ### Transfers of control in the spec's words -/

section
variable (u : State)

theorem jumpRel_eq_relative (e : Byte) : u.jumpRel e = { u with pc := relative u.pc e } := by
  rw [State.jumpRel, State.relTarget, add_sext16]
  rfl

theorem ifTaken_jumpRel (taken : Bool) (e : Byte) :
    u.ifTaken taken (·.jumpRel e) = if taken then { u with pc := relative u.pc e } else u := by
  rw [State.ifTaken, jumpRel_eq_relative]

/-- A relative jump changes PC only, taken or not. -/
theorem ifTaken_jumpRel_pc (taken : Bool) (e : Byte) :
    u.ifTaken taken (·.jumpRel e) = { u with pc := if taken then relative u.pc e else u.pc } := by
  rw [ifTaken_jumpRel]
  cases taken <;> rfl

theorem call_eq_pushed (target : Word) : u.call target = { pushed u.pc u with pc := target } := rfl

theorem ret_eq_popped : u.ret = { popped u with pc := u.readWord u.sp } := rfl

theorem retInt_eq_popped : u.retInt = { popped u with pc := u.readWord u.sp, iff1 := u.iff2 } := rfl

end

/-! ### The statements -/

/-- Settles O56: a jump writes PC with its target when its condition holds; DJNZ counts B down before its test. -/
theorem jumps : Obligations.Jumps := by
  intro s
  simp only [← holds_condOfRel]
  refine ⟨fun nn => ?_, fun cc nn => ?_, fun e => ?_, fun cc e => ?_, ?_, fun xy => ?_, fun e => ?_⟩
  · exact gives_of_exec rfl rfl rfl
  · rw [condition_eq_holds]
    exact gives_of_exec rfl rfl rfl
  · exact gives_of_exec rfl rfl (jumpRel_eq_relative _ e)
  · exact gives_of_exec rfl rfl (ifTaken_jumpRel _ _ e)
  · exact gives_of_exec rfl rfl rfl
  · exact gives_of_exec rfl rfl rfl
  · have hb : BitVec.ofInt 8 ((s.main.b.toNat : Int) - 1) = s.main.b - 1#8 := ofInt_toNat_sub s.main.b 1
    simp only [hb, ← bne_iff_ne]
    exact gives_of_exec rfl rfl (ifTaken_jumpRel_pc _ _ e)

/-- Settles O57: a call taken and RST push the address after the instruction; a call not taken is the step alone. -/
theorem calls : Obligations.Calls := by
  intro s
  simp only [condition_eq_holds]
  refine ⟨fun nn => ?_, fun cc nn => ?_, fun p => ?_⟩
  · exact gives_of_exec rfl rfl (call_eq_pushed _ nn)
  · exact gives_of_exec rfl rfl (congrArg (if s.flags.holds cc then · else _) (call_eq_pushed _ nn))
  · exact gives_of_exec rfl rfl (call_eq_pushed _ (rstTarget p))

/-- Settles O58: each return pops PC, and the returns from an interrupt also copy IFF2 into IFF1. -/
theorem returns : Obligations.Returns := by
  intro s
  simp only [condition_eq_holds]
  refine ⟨?_, fun cc => ?_, ?_, ?_, fun y => ?_⟩
  · exact gives_of_exec rfl rfl (ret_eq_popped _)
  · exact gives_of_exec rfl rfl (congrArg (if s.flags.holds cc then · else _) (ret_eq_popped _))
  · exact gives_of_exec rfl rfl (retInt_eq_popped _)
  · exact gives_of_exec rfl rfl (retInt_eq_popped _)
  · exact gives_of_exec rfl rfl (retInt_eq_popped _)

end Sys2Proof.Claims
end

section
/-! PROOFS. The completions of the block input and output instructions (R364 to R374): what their shared operation
leaves in the registers and the flags, then one iteration of it, which a repeating form may ask to run again. -/

namespace Sys2Proof.Claims

open Sys2Proof.Machine

variable {s t u : State}

/-! ### A byte write sees the store only -/

/-- A byte write reads and changes memory, RomSize and the video flag alone. -/
theorem SameStore.writeByte (h : SameStore s t) (a : Word) (v : Byte) :
    SameStore (s.writeByte a v) (t.writeByte a v) := by
  have hread : t.readByte a = s.readByte a := State.readByte_congr h.1 a
  obtain ⟨hmem, hrom, hvideo⟩ := h
  rw [State.writeByte, State.writeByte, hrom, hread]
  split_ifs
  · exact ⟨hmem, hrom, hvideo⟩
  · exact ⟨hmem, hrom, hvideo⟩
  · exact ⟨by rw [hmem], rfl, by rw [hvideo]⟩

theorem SameStore.writeWord (h : SameStore s t) (a w : Word) : SameStore (s.writeWord a w) (t.writeWord a w) :=
  (h.writeByte a (loByte w)).writeByte (a + 1#16) (hiByte w)

/-- A read of a port and a write to memory do not see each other. -/
theorem writeByte_ioTaken (u : State) (a : Word) (v : Byte) :
    u.ioTaken.writeByte a v = { u.writeByte a v with inputs := u.inputs.tail, draws := u.ioTaken.draws } := by
  obtain ⟨hmem, -, hvideo⟩ : SameStore (u.writeByte a v) (u.ioTaken.writeByte a v) :=
    SameStore.writeByte (by simp [SameStore]) a v
  rw [State.writeByte_spec, hmem, hvideo, ioTaken_spec, State.writeByte_spec u]

/-! ### The operation of a block input (R364, R366) -/

section
variable (u : State) (delta : Word) (cDelta : Byte) (drawn : Flags)

/-- A block input is a read of its port and one byte write beside its registers and flags. -/
theorem blockIn_spec : u.blockIn delta cDelta drawn =
    { u.writeByte u.hl (u.ioAnswer u.bc) with
      main := (u.blockIn delta cDelta drawn).main
      inputs := u.inputs.tail
      draws := (u.blockIn delta cDelta drawn).draws } := by
  rw [State.blockIn, State.setFlags_spec, writeByte_ioTaken]
  rfl

@[simp] theorem pc_blockIn : (u.blockIn delta cDelta drawn).pc = u.pc := by simp [State.blockIn]

theorem blockIoRegs_blockIn : BlockIoRegs delta u (u.blockIn delta cDelta drawn) := by
  simp [BlockIoRegs, State.blockIn, RegSet.set, State.hl, State.de]

theorem flags_blockIn : (u.blockIn delta cDelta drawn).flags =
    (blockIoFlags (u.main.b - 1#8) (u.ioAnswer u.bc) ((u.ioAnswer u.bc).toNat + (u.main.c + cDelta).toNat)).withFree
      drawn (.ofByte (Config.flagDraw u.ioTaken.draws)) := by
  simp [State.blockIn, State.flags_setFlags]

/-! ### The operation of a block output (R371, R373) -/

/-- A block output is a write to its port beside its registers and flags. -/
theorem blockOut_spec : u.blockOut delta drawn =
    { u with
      main := (u.blockOut delta drawn).main
      draws := (u.blockOut delta drawn).draws
      outHistory := u.outHistory ++ [((u.main.b - 1#8) ++ u.main.c, u.readByte u.hl)] } := by
  rw [State.blockOut, State.setFlags_spec]
  rfl

theorem blockIoRegs_blockOut : BlockIoRegs delta u (u.blockOut delta drawn) := by
  simp [BlockIoRegs, State.blockOut, RegSet.set, State.hl, State.de]

theorem main_l_blockOut : (u.blockOut delta drawn).main.l = loByte (u.hl + delta) := by simp [State.blockOut]

theorem flags_blockOut : (u.blockOut delta drawn).flags =
    (blockIoFlags (u.main.b - 1#8) (u.readByte u.hl) ((u.readByte u.hl).toNat + (loByte (u.hl + delta)).toNat)).withFree
      drawn (.ofByte (Config.flagDraw u.draws)) := by
  simp [State.blockOut, State.flags_setFlags]

end

/-! ### The flags (R364, R365) -/

theorem repeatIoDraws_false : repeatIoDraws false = .noBits := rfl

/-- A continuing iteration draws H, PV, X and Y; the other flags are those the operation computes. -/
theorem withFree_repeatIoDraws (fl free : Flags) (again : Bool) : fl.withFree (repeatIoDraws again) free =
    { fl with
      h := if again then free.h else fl.h
      pv := if again then free.pv else fl.pv
      x := if again then free.x else fl.x
      y := if again then free.y else fl.y } := by
  cases again <;> rfl

theorem blockIoFlags_of_flags_eq {b v : Byte} {k : Nat} {again : Bool} {free : Flags}
    (h : t.flags = (blockIoFlags b v k).withFree (repeatIoDraws again) free) : BlockIoFlags b v k again t := by
  rw [withFree_repeatIoDraws] at h
  rw [BlockIoFlags, h]
  refine ⟨rfl, beq_eq_decide _ _, rfl, rfl, ?_⟩
  rintro rfl
  exact ⟨rfl, rfl, rfl, parity_eq_evenOnes _⟩

/-! ### One iteration -/

theorem repeatCost_ioAgain (s : State) : repeatCost s.ioAgain = if s.main.b ≠ 1#8 then 21 else 16 := by
  simp [repeatCost, ioAgain_eq]

theorem blockIoRegs_begin {delta : Word} {fmt : Format} {n : Nat} :
    BlockIoRegs delta (s.begin fmt n) t ↔ BlockIoRegs delta s t := Iff.rfl

theorem blockIoRegs_repeatAt {delta ia : Word} {again : Bool} (h : BlockIoRegs delta s t) :
    BlockIoRegs delta s (t.repeatAt ia again) := by
  simpa [BlockIoRegs] using h

/-- One iteration of a block input, where `again` is the repeat test of R365. -/
theorem blockInPost_blockIn {delta : Word} {cDelta : Byte} {rep again : Bool} {n : Nat}
    (hagain : (rep && decide (s.main.b - 1#8 ≠ 0#8)) = again) :
    BlockInPost delta cDelta rep s (s.begin .ed2 n)
      (((s.begin .ed2 n).blockIn delta cDelta (repeatIoDraws again)).repeatAt s.pc again) := by
  simp only [BlockInPost, hagain]
  refine ⟨_, answers_ioAnswer s s.bc, ?_, blockIoRegs_repeatAt (blockIoRegs_begin.1 (blockIoRegs_blockIn _ _ _ _)),
    blockIoFlags_of_flags_eq ((flags_repeatAt _ _ _).trans (flags_blockIn _ _ _ _))⟩
  rw [repeatAt_eq, pc_blockIn, blockIn_spec]
  rfl

/-- The block input that does not repeat. -/
theorem blockInPost_once {delta : Word} {cDelta : Byte} {n : Nat} :
    BlockInPost delta cDelta false s (s.begin .ed2 n) ((s.begin .ed2 n).blockIn delta cDelta .noBits) := by
  simpa only [repeatIoDraws_false, repeatAt_false] using blockInPost_blockIn (rep := false) (again := false) rfl

/-- One iteration of a block output, where `again` is the repeat test of R372. -/
theorem blockOutPost_blockOut {delta : Word} {rep again : Bool} {n : Nat}
    (hagain : (rep && decide (s.main.b - 1#8 ≠ 0#8)) = again) :
    BlockOutPost delta rep s (s.begin .ed2 n)
      (((s.begin .ed2 n).blockOut delta (repeatIoDraws again)).repeatAt s.pc again) := by
  simp only [BlockOutPost, hagain, State.repeatAt_main, main_l_blockOut]
  refine ⟨?_, blockIoRegs_repeatAt (blockIoRegs_begin.1 (blockIoRegs_blockOut _ _ _)),
    blockIoFlags_of_flags_eq ((flags_repeatAt _ _ _).trans (flags_blockOut _ _ _))⟩
  rw [repeatAt_eq, blockOut_spec]
  rfl

/-- The block output that does not repeat. -/
theorem blockOutPost_once {delta : Word} {n : Nat} :
    BlockOutPost delta false s (s.begin .ed2 n) ((s.begin .ed2 n).blockOut delta .noBits) := by
  simpa only [repeatIoDraws_false, repeatAt_false] using blockOutPost_blockOut (rep := false) (again := false) rfl

/-! ### The statement -/

/-- Settles O60: INI, IND, OUTI and OUTD are the iteration that stops; the repeating forms go on while the new B is
not 0. -/
theorem blockIo : Obligations.BlockIo := by
  intro s
  have hagain : (true && decide (s.main.b - 1#8 ≠ 0#8)) = s.ioAgain := (bne_eq_decide_ne _ _).symm
  simp only [← repeatCost_ioAgain]
  refine ⟨?_, ?_, ?_, ?_, ?_, ?_, ?_, ?_⟩
  · exact gives_of_exec rfl rfl blockInPost_once
  · exact gives_of_exec rfl rfl (blockInPost_blockIn hagain)
  · exact gives_of_exec rfl rfl blockInPost_once
  · exact gives_of_exec rfl rfl (blockInPost_blockIn hagain)
  · exact gives_of_exec rfl rfl blockOutPost_once
  · exact gives_of_exec rfl rfl (blockOutPost_blockOut hagain)
  · exact gives_of_exec rfl rfl blockOutPost_once
  · exact gives_of_exec rfl rfl (blockOutPost_blockOut hagain)

end Sys2Proof.Claims
end

section
/-! PROOFS. The step around the instructions (R120, R400 to R407): which of its four kinds a step is, what an acceptance
leaves in the spec's words, and the ways a step stops. Last, the state after reset (R50). -/

namespace Sys2Proof.Claims

open Sys2Proof.Machine

variable {s : State} {bus : Byte} {ev : Event} {es : List Event}

/-! ### The kinds of step (R120) -/

theorem intEnabled_eq_false_iff : s.intEnabled = false ↔ s.iff1 = false ∨ s.eiShadow = true := by
  rw [State.intEnabled, Bool.and_eq_false_iff, Bool.not_eq_false']

theorem intEnabled_iff : s.intEnabled = true ↔ s.iff1 = true ∧ s.eiShadow = false := by
  rw [State.intEnabled, Bool.and_eq_true, Bool.not_eq_true']

theorem event_of_events_eq (h : s.events = ev :: es) : s.event = ev := by
  rw [State.event, h]
  rfl

theorem eventTaken_of_events_eq (h : s.events = ev :: es) : s.eventTaken = { s with events := es } := by
  rw [State.eventTaken, h]
  rfl

/-- Without an accepted interrupt a step idles or runs an instruction. -/
theorem step_eq_ordinary (hu : s.unmarked) (hn : noInterrupt s) : step s = ordinary exec s.eventTaken := by
  rw [step, cycle_unmarked hu]
  rcases hn with hnone | ⟨⟨bus, hint⟩, hoff⟩
  · rw [hnone]
    rfl
  · have hdisabled : s.eventTaken.intEnabled = false := intEnabled_eq_false_iff.2 hoff
    rw [hint]
    exact if_neg (Bool.not_eq_true _ ▸ hdisabled)

theorem step_eq_acceptNmi (hu : s.unmarked) (hnmi : s.event = .nmi) : step s = .next s.eventTaken.acceptNmi := by
  rw [step, cycle_unmarked hu, hnmi]
  rfl

theorem step_eq_acceptInt (hu : s.unmarked) (hint : s.event = .int bus) (hiff : s.iff1 = true)
    (hshadow : s.eiShadow = false) : step s = acceptInt bus s.eventTaken := by
  rw [step, cycle_unmarked hu, hint]
  exact if_pos (intEnabled_iff.2 ⟨hiff, hshadow⟩)

/-- The events of a step: an NMI, no accepted interrupt, or an INT that is accepted. -/
theorem event_cases (s : State) : s.event = .nmi ∨ noInterrupt s ∨
    ∃ bus, s.event = .int bus ∧ s.iff1 = true ∧ s.eiShadow = false := by
  cases hev : s.event with
  | none => exact .inr (.inl (.inl hev))
  | nmi => exact .inl rfl
  | int bus =>
    cases henabled : s.intEnabled with
    | false => exact .inr (.inl (.inr ⟨⟨bus, hev⟩, intEnabled_eq_false_iff.1 henabled⟩))
    | true => exact .inr (.inr ⟨bus, rfl, intEnabled_iff.1 henabled⟩)

/-! ### Acceptance in the spec's words (R402 to R407) -/

theorem isRst_iff : isRst bus = true ↔ bus &&& 0xC7#8 = 0xC7#8 := beq_iff_eq

/-- The push of an acceptance does not see the latch and the count before it. -/
theorem sameStore_accept (u : State) (cost : Nat) : SameStore (pushed u.pc u) (u.accept cost) :=
  SameStore.writeWord (s := u.setSp (u.sp - 2#16))
    (t := State.setSp (u.sp - 2#16) { u with halted := false, regR := bumpR 1 u.regR }) ⟨rfl, rfl, rfl⟩ _ _

/-- What an acceptance leaves, with the entry address and the flip-flops it then writes (R402). -/
theorem accept_eq_accepted (u : State) (entry : Word) (iff2 : Bool) (cost : Nat) :
    { u.accept cost with iff1 := false, iff2 := iff2, pc := entry } = accepted u entry iff2 cost := by
  obtain ⟨hmem, -, hvideo⟩ := sameStore_accept u cost
  rw [accepted, ← push_eq_pushed, State.push_spec]
  rw [← push_eq_pushed] at hmem hvideo
  rw [← hmem, ← hvideo, State.accept, State.push_spec, bumpR_eq_refreshed]

theorem acceptNmi_eq_accepted (u : State) : u.acceptNmi = accepted u 0x0066#16 u.iff2 11 := by
  rw [← accept_eq_accepted, State.acceptNmi]
  simp [State.accept]

theorem enterInt_eq_accepted (u : State) (cost : Nat) (target : State → Word) :
    u.enterInt cost target = accepted u (target (u.accept cost)) false cost :=
  accept_eq_accepted u _ false cost

/-- The vector of mode 2 is read after the push (R405). -/
theorem readWord_accept (u : State) (cost : Nat) (a : Word) :
    (u.accept cost).readWord a = (pushed u.pc u).readWord a := by
  have hread : ∀ b, (u.accept cost).readByte b = (pushed u.pc u).readByte b :=
    State.readByte_congr (sameStore_accept u cost).1
  rw [State.readWord, State.readWord, hread, hread]

theorem regI_accept (u : State) (cost : Nat) : (u.accept cost).regI = u.regI := by simp [State.accept]

/-! ### Acceptance of an INT in each mode (R404, R405) -/

section
variable {u : State}

theorem acceptInt_im0_of_rst (him : u.im = .im0) (hrst : bus &&& 0xC7#8 = 0xC7#8) :
    acceptInt bus u = .next (accepted u (0x00#8 ++ (bus &&& 0x38#8)) false 13) := by
  rw [acceptInt, him]
  exact (if_pos (isRst_iff.2 hrst)).trans (congrArg _ (enterInt_eq_accepted u 13 _))

theorem acceptInt_im0_of_not_rst (him : u.im = .im0) (hrst : bus &&& 0xC7#8 ≠ 0xC7#8) :
    acceptInt bus u = .refused (.im0BusNotRst bus) := by
  rw [acceptInt, him]
  exact if_neg (mt isRst_iff.1 hrst)

theorem acceptInt_im1 (him : u.im = .im1) : acceptInt bus u = .next (accepted u 0x0038#16 false 13) := by
  rw [acceptInt, him]
  exact congrArg _ (enterInt_eq_accepted u 13 _)

theorem acceptInt_im2 (him : u.im = .im2) :
    acceptInt bus u = .next (accepted u ((pushed u.pc u).readWord (u.regI ++ bus)) false 19) := by
  rw [acceptInt, him, ← regI_accept u 19, ← readWord_accept u 19]
  exact congrArg _ (enterInt_eq_accepted u 19 _)

end

/-! ### The statements -/

/-- Settles O12: an NMI is accepted whatever the flip-flops hold. -/
theorem nmiAcceptance : Obligations.NmiAcceptance := by
  intro s es hu hes
  rw [step_eq_acceptNmi hu (event_of_events_eq hes), acceptNmi_eq_accepted, eventTaken_of_events_eq hes]

/-- Settles O13: a turned-away INT leaves the step of no event; an accepted one enters by its mode. -/
theorem maskableAcceptance : Obligations.MaskableAcceptance := by
  refine ⟨fun s bus es hu hes hoff => ?_, fun s bus es hu hes hiff hshadow => ?_⟩
  · have hturned : noInterrupt s := .inr ⟨⟨bus, event_of_events_eq hes⟩, hoff⟩
    have hu' : State.unmarked { s with events := .none :: es } := hu
    rw [step_eq_ordinary hu hturned, step_eq_ordinary hu' (.inl rfl), eventTaken_of_events_eq hes]
    rfl
  · have hstep := eventTaken_of_events_eq hes ▸ step_eq_acceptInt hu (event_of_events_eq hes) hiff hshadow
    refine ⟨fun him hrst => ?_, fun him hrst => ?_, fun him => ?_, fun him => ?_⟩
    · exact hstep.trans (acceptInt_im0_of_rst him hrst)
    · have hrefused := hstep.trans (acceptInt_im0_of_not_rst him hrst)
      exact ⟨hrefused, congrArg s.after hrefused⟩
    · exact hstep.trans (acceptInt_im1 him)
    · exact hstep.trans (acceptInt_im2 him)

/-- Settles O11: a halted step without an accepted interrupt idles. -/
theorem haltedIdleCycle : Obligations.HaltedIdleCycle := by
  intro s hu hh hn
  have hidle : ordinary exec s.eventTaken = .next s.eventTaken.idle := if_pos hh
  rw [step_eq_ordinary hu hn, hidle, State.idle, bumpR_eq_refreshed]
  rfl

/-- Settles O10: a mark is answered before any event is looked at. -/
theorem markedStates : Obligations.MarkedStates := by
  refine ⟨fun s r hfault => ?_, fun s r hfault hrefused => ?_⟩
  · have hstep : step s = .fault r := by rw [step, cycle, hfault]
    exact ⟨hstep, by rw [hstep, State.after, ← hfault]⟩
  · have hstep : step s = .refused r := by rw [step, cycle, hfault, hrefused]
    exact ⟨hstep, by rw [hstep, State.after, ← hrefused]⟩

/-- Without an accepted interrupt a step answers a next state, or memory holds only absorbing prefixes (R118). -/
theorem step_next_or_fault (hu : s.unmarked) (hn : noInterrupt s) : (∃ t, step s = .next t) ∨
    (∀ a, s.readByte a = 0xDD#8 ∨ s.readByte a = 0xFD#8) ∧ step s = .fault (.prefixChainUnbounded s.pc) := by
  cases hh : s.halted with
  | true => exact .inl ⟨_, haltedIdleCycle s hu hh hn⟩
  | false =>
    obtain ⟨hnone, hfault⟩ := decodeFaultsOnlyOnPrefixMemory
    by_cases hprefix : ∀ a, s.readByte a = 0xDD#8 ∨ s.readByte a = 0xFD#8
    · exact .inr ⟨hprefix, hfault s hu hh hn hprefix⟩
    · have hdecode : decodeAt s.eventTaken.fetch s.eventTaken.pc ≠ none := mt (hnone _ _).1 hprefix
      obtain ⟨⟨k, i⟩, hrow⟩ := Option.ne_none_iff_exists'.1 hdecode
      obtain ⟨t, hexec, -⟩ := exec_effect i (s.eventTaken.absorb k)
      have hrun : execute exec s.eventTaken = .next t := by rw [execute, hrow]; exact hexec
      exact .inl ⟨t, (step_eq_execute hu hh hn).trans hrun⟩

/-- Settles O9: instructions answer by their effect, a step by its kind. -/
theorem stopsAreListed : Obligations.StopsAreListed := by
  refine ⟨fun i s => ?_, fun s => ?_⟩
  · obtain ⟨t, hexec, -⟩ := exec_effect i s
    exact ⟨t, hexec⟩
  by_cases hu : s.unmarked
  · rcases event_cases s with hnmi | hn | ⟨bus, hint, hiff, hshadow⟩
    · exact .inl ⟨_, step_eq_acceptNmi hu hnmi⟩
    · rcases step_next_or_fault hu hn with hnext | hfault
      · exact .inl hnext
      · exact .inr (.inr (.inr hfault))
    · have hstep := step_eq_acceptInt hu hint hiff hshadow
      rcases acceptInt_cases bus s.eventTaken with ⟨him, hrst, hrefused⟩ | ⟨cost, target, hnext⟩
      · exact .inr (.inr (.inl ⟨bus, hint, hiff, hshadow, him, beq_eq_false_iff_ne.1 hrst, hstep.trans hrefused⟩))
      · exact .inl ⟨_, hstep.trans hnext⟩
  · exact .inr (.inl hu)

/-- Settles O23: memory is empty after reset, and the reset with the empty image writes what `State.reset` holds. -/
theorem resetInv : Obligations.ResetInv := ⟨⟨memory_nil_wf, Nat.zero_le _⟩, rfl⟩

end Sys2Proof.Claims
end
